-- ==== Sys2Proof/Word.lean ====
section
/-! DEFINITION. The plain types of the part: words, colours, stereo frames, the two seats, the three outlets, the keys,
and the small fixed collections indexed by them. -/

namespace Sys2Proof

/-- A word of the part is 16 bits (00_scope, Conventions). -/
abbrev Word := BitVec 16

/-- One colour channel, or one half of a word. -/
abbrev Byte := BitVec 8

/-- The upper 8 bits of a word. -/
def Word.hi (w : Word) : Byte := w.extractLsb' 8 8

/-- The lower 8 bits of a word. -/
def Word.lo (w : Word) : Byte := w.extractLsb' 0 8

/-- The word with upper byte `h` and lower byte `l`. -/
def Word.ofBytes (h l : Byte) : Word := h ++ l

/-- A 24-bit colour. -/
structure Rgb where
  r : Byte
  g : Byte
  b : Byte
deriving DecidableEq, Repr

def Rgb.black : Rgb := ⟨0, 0, 0⟩

/-- One stereo sound frame: two signed 16-bit samples. -/
structure Stereo where
  left  : Word
  right : Word
deriving DecidableEq, Repr

def Stereo.silence : Stereo := ⟨0, 0⟩

/-- Seat A or seat B, and equally its display and its headphone zone. -/
inductive Side where
  | a | b
deriving DecidableEq, Repr

/-- A film programme, 0 to 3. -/
abbrev Prog := Fin 4

/-- A picture tag, 0 to 3. -/
abbrev Tag := Fin 4

/-- The three sound outlets. -/
inductive Outlet where
  | zoneA | zoneB | cabin
deriving DecidableEq, Repr

/-- The seven keys of a seat's pad. -/
inductive Key where
  | menu | up | down | select | back | volUp | volDown
deriving DecidableEq, Repr

/-- The three voices of the Chime Engine. -/
inductive VoiceId where
  | v0 | v1 | v2
deriving DecidableEq, Repr

/-- One thing for each side. -/
structure Pair (α : Type) where
  a : α
  b : α
deriving DecidableEq, Repr

def Pair.get {α : Type} (p : Pair α) : Side → α
  | .a => p.a
  | .b => p.b

def Pair.set {α : Type} (p : Pair α) (i : Side) (x : α) : Pair α :=
  match i with
  | .a => { p with a := x }
  | .b => { p with b := x }

/-- One thing for each programme. -/
structure Quad (α : Type) where
  p0 : α
  p1 : α
  p2 : α
  p3 : α
deriving DecidableEq, Repr

def Quad.get {α : Type} (q : Quad α) : Prog → α
  | 0 => q.p0
  | 1 => q.p1
  | 2 => q.p2
  | 3 => q.p3

def Quad.set {α : Type} (q : Quad α) (i : Prog) (x : α) : Quad α :=
  match i with
  | 0 => { q with p0 := x }
  | 1 => { q with p1 := x }
  | 2 => { q with p2 := x }
  | 3 => { q with p3 := x }

/-- One thing for each outlet. -/
structure PerOutlet (α : Type) where
  zoneA : α
  zoneB : α
  cabin : α
deriving DecidableEq, Repr

def PerOutlet.get {α : Type} (q : PerOutlet α) : Outlet → α
  | .zoneA => q.zoneA
  | .zoneB => q.zoneB
  | .cabin => q.cabin

def PerOutlet.map {α β : Type} (f : Outlet → α → β) (q : PerOutlet α) : PerOutlet β :=
  ⟨f .zoneA q.zoneA, f .zoneB q.zoneB, f .cabin q.cabin⟩

/-- One thing for each voice. -/
structure PerVoice (α : Type) where
  v0 : α
  v1 : α
  v2 : α
deriving DecidableEq, Repr

def PerVoice.get {α : Type} (q : PerVoice α) : VoiceId → α
  | .v0 => q.v0
  | .v1 => q.v1
  | .v2 => q.v2

def PerVoice.set {α : Type} (q : PerVoice α) (i : VoiceId) (x : α) : PerVoice α :=
  match i with
  | .v0 => { q with v0 := x }
  | .v1 => { q with v1 := x }
  | .v2 => { q with v2 := x }

def PerVoice.map {α β : Type} (f : α → β) (q : PerVoice α) : PerVoice β :=
  ⟨f q.v0, f q.v1, f q.v2⟩

/-- One thing for each key of one seat. -/
structure PerKey (α : Type) where
  menu    : α
  up      : α
  down    : α
  select  : α
  back    : α
  volUp   : α
  volDown : α
deriving DecidableEq, Repr

def PerKey.get {α : Type} (q : PerKey α) : Key → α
  | .menu => q.menu
  | .up => q.up
  | .down => q.down
  | .select => q.select
  | .back => q.back
  | .volUp => q.volUp
  | .volDown => q.volDown

def PerKey.set {α : Type} (q : PerKey α) (k : Key) (x : α) : PerKey α :=
  match k with
  | .menu => { q with menu := x }
  | .up => { q with up := x }
  | .down => { q with down := x }
  | .select => { q with select := x }
  | .back => { q with back := x }
  | .volUp => { q with volUp := x }
  | .volDown => { q with volDown := x }

def PerKey.all {α : Type} (x : α) : PerKey α := ⟨x, x, x, x, x, x, x⟩

end Sys2Proof
end

