-- ==== Sys2Proof/Syntax.lean ====
section
/-! DEFINITION. The commands of the part, one constructor for each row of spec/opcode_table.json. The table gives no row
a bit or a field: a command carries what the spec says comes from outside with its event (received words, pin levels,
pixels), and nothing that the part itself holds. -/

namespace Sys2Proof

/-- One step of the part (95_what_each_step_holds). -/
inductive Instr where
  /-- A power-on reset begins (R28). -/
  | powerOnReset
  /-- RESET_N is asserted (R28). -/
  | pinReset
  /-- The reset is released with these levels on STN3 to STN0 and AUTOCAM (R8, R102). R8 gives the four pins no weights:
  that STN3 is the highest bit of the strap value and STN0 the lowest is a DESIGN CHOICE (log 30), unsafe. -/
  | resetRelease (stn : BitVec 4) (autocam : Bool)
  /-- A full restart takes effect (R28). -/
  | fullRestart
  /-- A media restart takes effect (R27). -/
  | mediaRestart
  /-- The physical layer hands over a parcel that fails R6: its words in the order received. -/
  | discardedParcel (words : List Word)
  /-- A valid FILL parcel's words (R10). -/
  | fill (words : List Word)
  /-- A valid PICTURE_LINE parcel's words (R46). -/
  | pictureLine (words : List Word)
  /-- A valid PICTURE_MARK parcel's words (R44). -/
  | pictureMark (words : List Word)
  /-- A valid SOUND parcel's words (R142). -/
  | sound (words : List Word)
  /-- A valid REQUEST parcel's words (R9). -/
  | request (words : List Word)
  /-- The silence timer expires (R10). -/
  | silenceTimerExpiry
  /-- The upstream parcel under way ends (R15). -/
  | parcelEnd
  /-- The kept reply is handed to the empty reply slot (R17). -/
  | replyHandoff
  /-- The Request Unit takes a POINT request from its queue; the arguments ride in the queued payload (R17, R19). -/
  | point
  | put
  | get
  | commit
  | start
  | restart
  | vehicle
  | view
  | hold
  | release
  | key
  | openPage
  | chime
  | stopChime
  | resume
  /-- A display's raster begins a frame (R63, R64). -/
  | displayFrameStart (d : Side)
  /-- A display's raster reaches the film window's top row (R51, R63). -/
  | windowTop (d : Side)
  /-- A display's raster reaches its next active row (R63, R67). -/
  | activeRow (d : Side)
  /-- A display's raster reaches the line after the last window row (R55, R63). -/
  | windowBottom (d : Side)
  /-- One filter sample with the raw levels of STR_A, STR_B and STR_IX (R79). -/
  | filterSample (a b ix : Bool)
  /-- A rising edge of CAM_VS. `hs` is none when CAM_HS does not rise on the same pixel clock; otherwise CAM_HS rises
  too, that many pixel clocks after the last accepted line sync (R92). -/
  | frameSync (hs : Option Nat)
  /-- A rising edge of CAM_HS, `clocks` pixel clocks after the last accepted line sync (R92). -/
  | lineSync (clocks : Nat)
  /-- The sync watch expires (R94). -/
  | syncWatchExpiry
  /-- The free-run timer expires (R95). -/
  | freeRunExpiry
  /-- The row of the present camera line is completed. `pixels` are the line's pixels from pixel count 0 on, up to the
  row's last column, or fewer where the line ends before it (R92, R96). -/
  | cameraRow (pixels : List Rgb)
  /-- The next row of a frame that lost lock is completed as fill (R96). -/
  | fillRow
  /-- The next row of a free-running frame is completed (R97). -/
  | generatedRow
  /-- The Guide Overlay finishes the oldest buffered row (R98, R120). -/
  | rowDrawn
  /-- The REVERSE pin's 1 ms samples, oldest first, of which the last changes the debounced level (R99). -/
  | reverseLevelChange (samples : List Bool)
  /-- The CAL pin's 1 ms samples, oldest first, of which the last changes the debounced level (R99). -/
  | calLevelChange (samples : List Bool)
  /-- The linger timer expires (R100). -/
  | lingerExpiry
  /-- A key pin's 1 ms samples (true is high, a pressed key reads low), of which the last makes its debounced level
  pressed (R122). -/
  | press (seat : Side) (key : Key) (samples : List Bool)
  /-- A key pin's 1 ms samples, of which the last makes its debounced level released (R122, R123). -/
  | keyRelease (seat : Side) (key : Key) (samples : List Bool)
  /-- A key's repeat timer expires (R123). -/
  | repeatTimerExpiry (seat : Side) (key : Key)
  /-- A seat's menu timeout expires (R132). -/
  | timeoutExpiry (seat : Side)
  /-- A seat's banner timer expires (R73). -/
  | bannerExpiry (seat : Side)
  /-- One of the 48,000 sample ticks of a second (R150). -/
  | sampleTick
  /-- The lowest-numbered voice whose last tick brought an end reached the natural end of its chime (R154, R159). -/
  | voiceNaturalEnd
  /-- The lowest-numbered voice whose last tick brought an end fell to level 0 while RELEASING (R155, R159). -/
  | releaseEnd
  /-- One millisecond of cabin time (R39). -/
  | cabinTimeTick
  /-- The Request Unit takes a request whose name word lies outside 1 to 15 (R18). -/
  | unknownRequestName
deriving DecidableEq, Repr

end Sys2Proof
end

