-- ==== Sys2Proof/Config.lean ====
section
/-! DEFINITION. The constants the spec fixes for the part: capacities, thresholds and periods. The spec leaves no result
value open, so there is no free value here. -/

namespace Sys2Proof.Config

/-- IDENT words 0 and 1 (R33, Table 2-5). -/
def partCode : Word := 0x2640
def version : Word := 0x0201

/-- A STATS counter stops here (R23). -/
def counterMax : Nat := 65535

/-- The station strap value that turns management off (R8). -/
def strapOff : Nat := 15

/-- Requests held in the request queue (R16). -/
def requestDepth : Nat := 8
/-- Data words of one PUT or GET (Table 2-1). -/
def transferMax : Nat := 32

/-- Notice records, and SELECT records among them (R38, R40). -/
def noticeDepth : Nat := 16
def selectDepth : Nat := 2

/-- Slots of a line store (R47), the slots that let a stalled display recover (R50), and the misses that stall it (R54). -/
def storeDepth : Nat := 16
def recoverSlots : Nat := 8
def stallMisses : Nat := 8

/-- Camera line buffer rows (R98) and upstream picture parcels (R104). -/
def bufferDepth : Nat := 4
def upstreamDepth : Nat := 4

/-- Consecutive samples that pass a debouncer (R99, R122). -/
def debounceSamples : Nat := 20

/-- Page stack entries (R127), pages (R125) and tiles (R70). -/
def stackDepth : Nat := 6
def pageCount : Nat := 32
def tileCount : Nat := 512

/-- Auto-repeat periods in ms (R123). -/
def repeatFirst : Nat := 500
def repeatNext : Nat := 150

/-- Highest volume step (R136). -/
def volumeTop : Nat := 20

/-- Ring capacity and the level that starts play (R140, R142). -/
def ringDepth : Nat := 512
def primeLevel : Nat := 256

/-- Unity gain (00_scope, Conventions). -/
def unity : Nat := 32768

/-- Sample ticks each second, and the rate of the sample clocks (R150). -/
def sampleRate : Nat := 48000

/-- Chime numbers (R152), suspend list and pending queue sizes (R153). -/
def chimeCount : Nat := 32
def suspendDepth : Nat := 3
def pendingDepth : Nat := 8

/-- A word setting that names no chime or no programme (R32, R21). -/
def noChime : Nat := 255
def noProgramme : Nat := 15

/-- The free-run interval in µs that runs from reset release (Table 6-4). -/
def freeRunDefault : Nat := 33367

end Sys2Proof.Config
end

