-- ==== Sys2Proof/Machine/Tables.lean ====
section
/-! DEFINITION. The Table Store's words: a table as a list of (index, word) pairs in one canonical form, the table
directory (Table 2-2) and the default contents (R34). -/

namespace Sys2Proof.Machine

/-- A table of 16-bit words. An index that is not listed reads 0 (R34 gives 0 to every word without a listed default). -/
abbrev Table := List (Nat × Word)

/-- The word at an index. -/
def Table.read : Table → Nat → Word
  | [], _ => 0
  | (a, w) :: t, i => if a = i then w else Table.read t i

/-- The word at an index, as a number. -/
def Table.nat (t : Table) (i : Nat) : Nat := (t.read i).toNat

/-- The word at an index, as a signed number (00_scope, Signed values). -/
def Table.int (t : Table) (i : Nat) : Int := (t.read i).toInt

/-- Stores a word; storing 0 takes the entry out, so that equal tables are equal lists. -/
def Table.write : Table → Nat → Word → Table
  | [], i, w => if w = 0 then [] else [(i, w)]
  | (a, v) :: t, i, w =>
    if i < a then (if w = 0 then (a, v) :: t else (i, w) :: (a, v) :: t)
    else if i = a then (if w = 0 then t else (i, w) :: t)
    else (a, v) :: Table.write t i w

/-- Stores words at consecutive indices. -/
def Table.writeFrom (t : Table) (i : Nat) : List Word → Table
  | [] => t
  | w :: ws => Table.writeFrom (t.write i w) (i + 1) ws

/-- The canonical form: indices strictly rising, no word 0. -/
def Table.wf : Table → Bool
  | [] => true
  | (a, w) :: t => decide (w ≠ 0) && t.all (fun c => decide (a < c.1)) && Table.wf t

/-- Every listed index lies below the table's size. -/
def Table.below (t : Table) (n : Nat) : Bool := t.all fun c => decide (c.1 < n)

/-- The words of a range of indices, as a table of their own (a latched copy). -/
def Table.slice (t : Table) (lo hi : Nat) : Table := t.filter fun c => decide (lo ≤ c.1 ∧ c.1 < hi)

/-- A table from consecutive words. -/
def Table.ofWords (i : Nat) (ws : List Word) : Table := Table.writeFrom [] i ws

/-- The tables of Table 2-2. -/
inductive TableId where
  | ident | control | raster | composeA | composeB | route | steering | camera | pages | items | tiles | palettes
  | chimes | waves | mixer | stats | composeAActive | composeBActive | cameraActive
deriving DecidableEq, Repr

/-- The table with an id, 0 to 18 (Table 2-2). -/
def tableOfId : Nat → Option TableId
  | 0 => some .ident
  | 1 => some .control
  | 2 => some .raster
  | 3 => some .composeA
  | 4 => some .composeB
  | 5 => some .route
  | 6 => some .steering
  | 7 => some .camera
  | 8 => some .pages
  | 9 => some .items
  | 10 => some .tiles
  | 11 => some .palettes
  | 12 => some .chimes
  | 13 => some .waves
  | 14 => some .mixer
  | 15 => some .stats
  | 16 => some .composeAActive
  | 17 => some .composeBActive
  | 18 => some .cameraActive
  | _ => none

/-- The size of a table in words (Table 2-2). -/
def tableSize : TableId → Nat
  | .ident => 16
  | .control => 32
  | .raster => 32
  | .composeA => 32
  | .composeB => 32
  | .route => 8
  | .steering => 16
  | .camera => 512
  | .pages => 256
  | .items => 5120
  | .tiles => 16384
  | .palettes => 128
  | .chimes => 256
  | .waves => 65536
  | .mixer => 64
  | .stats => 64
  | .composeAActive => 32
  | .composeBActive => 32
  | .cameraActive => 512

/-- The words of a table that a PUT may write (Table 2-2, R77). -/
def wordWritable : TableId → Nat → Bool
  | .ident, i => decide (i = 4)
  | .control, i => decide (i ≤ 20)
  | .route, i => decide (i ≤ 4)
  | .steering, i => decide (i ≤ 5 ∨ i = 8)
  | .composeAActive, _ => false
  | .composeBActive, _ => false
  | _, _ => true

/-- Whether a word may be put at an index of CONTROL (Table 2-4). -/
def controlLegal (i : Nat) (w : Word) : Bool :=
  if i ≤ 8 then decide (w.toNat ≤ 1)
  else if i = 9 then decide (w.toNat ≤ 2)
  else if i = 10 then decide (w.toNat ≤ 10000)
  else if i = 11 then decide (w.toNat ≤ 8)
  else if i = 18 then decide (w.toNat ≤ 1)
  else true

/-- Whether a word may be put at an index of STEERING (Table 5-1). -/
def steeringLegal (i : Nat) (w : Word) : Bool :=
  if i ≤ 1 then decide (w.toNat ≤ 1)
  else if i = 2 then decide (w.toNat ≤ 15)
  else if i = 3 then decide (1 ≤ w.toNat ∧ w.toNat ≤ 4095)
  else if i = 4 then decide (-255 ≤ w.toInt ∧ w.toInt ≤ 255)
  else if i = 5 then decide (w.toNat ≤ 2)
  else true

/-- Whether a word may be put at an index of MIXER (Table 9-2). -/
def mixerLegal (i : Nat) (w : Word) : Bool :=
  if i ≤ 20 then decide (w.toNat ≤ 32768)
  else if i ≤ 23 then decide (w.toNat ≤ 20)
  else if i ≤ 30 then decide (w.toNat ≤ 32768)
  else if i = 31 then decide (1 ≤ w.toNat ∧ w.toNat ≤ 1024)
  else if i ≤ 34 then decide (1 ≤ w.toNat ∧ w.toNat ≤ 32768)
  else true

/-- Whether a word carries a legal value where Table 2-2 marks it as checked. -/
def wordLegal : TableId → Nat → Word → Bool
  | .ident, _, w => decide (w = 0)
  | .control, i, w => controlLegal i w
  | .route, _, w => decide (w.toNat ≤ 3 ∨ w.toNat = Config.noProgramme)
  | .steering, i, w => steeringLegal i w
  | .mixer, i, w => mixerLegal i w
  | _, _, _ => true

/-! Default contents (R34). -/

/-- Table 2-4. -/
def defaultControl : Table :=
  Table.ofWords 0 [1, 1, 1, 1, 1, 1, 1, 1, 1, 2, 0, 4, 255, 0, 0, 255, 255, 255]

def defaultRoute : Table := Table.ofWords 0 [15, 15, 15, 15, 15]

/-- Table 5-1. -/
def defaultSteering : Table := Table.ofWords 0 [1, 0, 4, 4095, 0, 2]

/-- Tables 6-1 and 7-1. −4,095 as a word is 0xF001. -/
def defaultCamera : Table :=
  Table.writeFrom
    (Table.writeFrom (Table.ofWords 0 [1650, 750, 260, 25, 1280, 720, 1500, 33367]) 35
      [464, 704, 2, 12, 4, 60, 120, 180, 4]) 54
    [0xF001, 4095]

/-- Table 9-2: the volume table entry of a step is 1,638 times the step. -/
def defaultVolume : List Word := (List.range 21).map fun i => BitVec.ofNat 16 (1638 * i)

def defaultMixer : Table :=
  Table.writeFrom (Table.ofWords 0 defaultVolume) 21
    [10, 10, 10, 32768, 32768, 32768, 16384, 32768, 32768, 8192, 64, 512, 32, 256]

end Sys2Proof.Machine
end

