-- ==== Sys2Proof/Machine/Blocks.lean ====
section
/-! DEFINITION. The state of each block of the part (Table 0-1), as plain data. -/

namespace Sys2Proof.Machine

/-! Link Port (01_the_cabin_link) -/

/-- The two kinds of restart (R26). -/
inductive RestartKind where
  | media | full
deriving DecidableEq, Repr

/-- Table 1-4. -/
inductive ReplyCode where
  | done | state | table | index | value | pending | inUse | length | unknown
deriving DecidableEq, Repr

/-- A finished reply (R13, R17). `restart` says which restart it answers, if any (R17, R26). -/
structure Reply where
  tag     : Byte
  code    : ReplyCode
  data    : List Word
  restart : Option RestartKind
deriving DecidableEq, Repr

/-- The Link Port (Table 1-7). `silence` is whether the 1 ms silence timer runs; `sending` is the upstream parcel under
way, word by word (R1). -/
structure LinkPort where
  strap   : BitVec 4
  up      : Bool
  silence : Bool
  seen    : Bool
  slot    : Option Reply
  sending : List Word
deriving DecidableEq, Repr

/-! Request Unit (02_requests_tables_and_notices) -/

/-- A request in the queue (R16). -/
structure QueuedRequest where
  payload : List Word
  tag     : Byte
  wanted  : Bool
deriving DecidableEq, Repr

/-- R17. HOLDING keeps the finished reply; RESTARTING knows the kind and whether its reply has left the slot, from when
on the restart is due (R26). -/
inductive UnitStatus where
  | ready
  | holding (r : Reply)
  | restarting (k : RestartKind) (left : Bool)
deriving DecidableEq, Repr

/-- The window pointer (R19). -/
structure Pointer where
  table : TableId
  index : Nat
deriving DecidableEq, Repr

/-- R24. -/
inductive Service where
  | cameraOnly | media
deriving DecidableEq, Repr

/-- R33. -/
inductive ResetCause where
  | none | power | pin | full | media
deriving DecidableEq, Repr

structure RequestUnit where
  queue   : List QueuedRequest
  status  : UnitStatus
  pointer : Pointer
  service : Service
  cause   : ResetCause
deriving DecidableEq, Repr

/-! Table Store (R34) and the banked groups (R36) -/

inductive GroupState where
  | idle | swapPending | copying
deriving DecidableEq, Repr

structure Group where
  staging : Table
  active  : Table
  state   : GroupState
deriving DecidableEq, Repr

/-- The banked groups (Table 2-6). -/
inductive GroupId where
  | camera | composeA | composeB
deriving DecidableEq, Repr

structure TableStore where
  control   : Table
  raster    : Table
  route     : Table
  steering  : Table
  pages     : Table
  items     : Table
  tiles     : Table
  palettes  : Table
  chimes    : Table
  waves     : Table
  mixer     : Table
  stats     : Table
  camera    : Group
  composeA  : Group
  composeB  : Group
deriving DecidableEq, Repr

/-! Notice Queue (R38, R39) -/

/-- Table 2-8. -/
inductive NoticeKind where
  | select | route | group | camera | steer | reverse | picture | sound | link
deriving DecidableEq, Repr

structure Notice where
  kind   : NoticeKind
  detail : Word
  value  : Word
  time   : BitVec 32
deriving DecidableEq, Repr

structure NoticeQueue where
  records : List Notice
  time    : BitVec 32
deriving DecidableEq, Repr

/-! Picture Ingest and Line Stores (03_picture_streams_and_line_stores) -/

/-- A programme's format record (R43). -/
structure Format where
  width   : Nat
  height  : Nat
  lastTag : Option Tag
deriving DecidableEq, Repr

/-- A slot of a line store (R47); the pixel count is the number of pixels. `drawn` says whether a window row of the
present frame has been drawn from it (R53, R55). -/
structure Slot where
  tag    : Tag
  line   : Nat
  pixels : List Rgb
  drawn  : Bool
deriving DecidableEq, Repr

/-- R49. -/
inductive Picture where
  | noSource | playing | stalled | halted
deriving DecidableEq, Repr

/-- R49. -/
inductive Phase where
  | before | inside | after
deriving DecidableEq, Repr

/-- The reader of a line store (R49). `route` none is NONE; `opened` says whether the present frame was opened under
R50 (R51, R55). -/
structure Reader where
  picture  : Picture
  route    : Option Prog
  openTag  : Tag
  phase    : Phase
  nextLine : Nat
  misses   : Nat
  lastRow  : Option (List Rgb)
  resume   : Bool
  opened   : Bool
deriving DecidableEq, Repr

/-! Display Engines (04_rear_displays_and_composition) -/

/-- One tile row of the menu snapshot's cell map (R138): the palette of its label cells and their tile numbers. -/
structure MenuRow where
  palette : Nat
  tiles   : List Nat
deriving DecidableEq, Repr

/-- The banner as latched at a frame start (R64, R73). -/
structure BannerLatch where
  step   : Nat
  filled : Nat
  empty  : Nat
deriving DecidableEq, Repr

/-- Where a running raster stands in its frame (R62, R63): the next active row, and whether the window top and the
window bottom have come. -/
structure Raster where
  row    : Nat
  top    : Bool
  bottom : Bool
deriving DecidableEq, Repr

/-- A display: its line store, its reader and its Display Engine (Table 4-7). `menu` none is a CLOSED snapshot; `raster`
none is a stopped raster, or one that START has just begun; `rowOut` is the composed row on the data outputs. -/
structure Display where
  store  : List Slot
  reader : Reader
  comp   : Option Table
  menu   : Option (List MenuRow)
  banner : Option BannerLatch
  raster : Option Raster
  rowOut : List Rgb
deriving DecidableEq, Repr

/-- Display A's mirror flag (set: `frame` holds the mirrored frame's tag) and mirror tag (R74). -/
structure Mirror where
  frame : Option Tag
  tag   : Tag
deriving DecidableEq, Repr

/-! Steering Counter (05_the_steering_counter) -/

/-- R78. -/
inductive SteerState where
  | off | unreferenced | referenced | fault
deriving DecidableEq, Repr

inductive Direction where
  | forward | backward
deriving DecidableEq, Repr

/-- A filter record (R78, R79). -/
structure FilterRecord where
  level : Bool
  run   : Nat
deriving DecidableEq, Repr

/-- The Steering Counter besides its setup words (R78). `fresh` says that the first sample after a reset has not come
(R89). -/
structure Steering where
  state     : SteerState
  count     : Int
  limitFlag : Bool
  faults    : Nat
  capCount  : Int
  capState  : SteerState
  filtA     : FilterRecord
  filtB     : FilterRecord
  filtIx    : FilterRecord
  prevA     : Bool
  prevB     : Bool
  prevIx    : Bool
  lastDir   : Option Direction
  fresh     : Bool
deriving DecidableEq, Repr

/-! Camera Input (06_camera_input_and_the_rear_view) -/

/-- R93. -/
inductive CameraState where
  | noSignal | acquiring | locked
deriving DecidableEq, Repr

/-- How the rows of a frame come about: camera rows, fill rows after a loss of lock (R96), or generated rows (R97). -/
inductive RowKind where
  | camera | fill | generated
deriving DecidableEq, Repr

/-- The camera frame in progress: its kind of rows and its next row to complete. -/
structure CameraFrame where
  kind    : RowKind
  nextRow : Nat
deriving DecidableEq, Repr

/-- A completed row (R96, R97): its frame, its row number and its pixels. -/
structure CameraRow where
  frame  : Nat
  number : Nat
  kind   : RowKind
  pixels : List Rgb
deriving DecidableEq, Repr

/-- The Camera Input (Table 6-4). Timers hold the µs they were started with; `measured` is the line count of the frame
being measured (R92), `line` the number of the present line, `frameNo` the model's number of the newest frame. -/
structure CameraInput where
  state    : CameraState
  good     : Nat
  bad      : Nat
  watch    : Option Nat
  lineSeen : Bool
  freeRun  : Option Nat
  latched  : Table
  synced   : Bool
  measured : Option Nat
  line     : Nat
  frameNo  : Nat
  frame    : Option CameraFrame
  buffer   : List CameraRow
deriving DecidableEq, Repr

/-! Guide Overlay (07_guide_lines) -/

/-- R105. -/
inductive HoldState where
  | free | holdRequested | held | releaseRequested
deriving DecidableEq, Repr

/-- A frame's guide record (R111): the guide fields (words 32 to 401), the active size, validity, the drawing flags
(R119), and the frame shape of the left and the right trajectory line (R113). -/
structure GuideRecord where
  frame     : Nat
  fields    : Table
  width     : Nat
  height    : Nat
  valid     : Bool
  drawFixed : Bool
  drawTraj  : Bool
  drawBars  : Bool
  left      : List Int
  right     : List Int
deriving DecidableEq, Repr

structure GuideOverlay where
  records     : List GuideRecord
  hold        : HoldState
  holdRequest : Bool
deriving DecidableEq, Repr

/-! Rear View Output (06_camera_input_and_the_rear_view) -/

/-- A debounced pin (R99, R122). -/
structure Debouncer where
  level : Bool
  run   : Nat
deriving DecidableEq, Repr

/-- R100. -/
inductive ReverseState where
  | off | on | linger
deriving DecidableEq, Repr

/-- R102. -/
inductive View where
  | none | camera | mirror
deriving DecidableEq, Repr

/-- The frame the camera frame flag was set for, with the tag of its mark (R103). -/
structure FlaggedFrame where
  frame : Nat
  tag   : Tag
deriving DecidableEq, Repr

/-- The source of an upstream picture (R2). -/
inductive PictureSource where
  | camera | mirror
deriving DecidableEq, Repr

/-- A picture parcel of the upstream picture queue (R104). -/
inductive UpPicture where
  | mark (source : PictureSource) (tag : Tag) (width height : Nat)
  | line (source : PictureSource) (tag : Tag) (number : Nat) (pixels : List Rgb)
deriving DecidableEq, Repr

structure RearView where
  reversePin : Debouncer
  calPin     : Debouncer
  inband     : Bool
  reverse    : ReverseState
  linger     : Option Nat
  requested  : View
  bankLoaded : Bool
  autocam    : Bool
  actual     : View
  camFlag    : Option FlaggedFrame
  camTag     : Tag
  queue      : List UpPicture
deriving DecidableEq, Repr

/-! Menu Engines (08_menus_and_keys) -/

/-- An entry of the page stack (R127). -/
structure PageEntry where
  page      : Nat
  highlight : Option Nat
deriving DecidableEq, Repr

/-- A Menu Engine (Table 8-5). The stack's head is its top. Timers hold what they were started with: seconds for the
timeout, ms for the banner and the repeat timers. A key's debounced level true is pressed. -/
structure Menu where
  stack   : List PageEntry
  timeout : Option Nat
  banner  : Option Nat
  keys    : PerKey Debouncer
  repeats : PerKey (Option Nat)
deriving DecidableEq, Repr

/-! Sound Rings and Mixer (09_sound_rings_and_the_mixer) -/

/-- R140. -/
inductive SoundState where
  | unrouted | priming | playing
deriving DecidableEq, Repr

/-- A programme's ring, oldest frame first (R140). -/
structure Ring where
  state  : SoundState
  frames : List Stereo
deriving DecidableEq, Repr

/-- An outlet (R146): a source none is NONE; `pending` none is absent. `out` is the last output frame (R150). -/
structure OutletState where
  current : Option Prog
  pending : Option (Option Prog)
  gain    : Nat
  duck    : Nat
  out     : Stereo
deriving DecidableEq, Repr

/-! Chime Engine (10_chimes) -/

/-- R153. -/
inductive ChimePhase where
  | head | loop
deriving DecidableEq, Repr

/-- How a voice comes to its end at a tick (R154, R155). -/
inductive VoiceEnd where
  | natural | release
deriving DecidableEq, Repr

/-- A voice that is not FREE (R153). `loops` none is unlimited. `due` is the end the last tick brought it to. -/
structure Voice where
  chime     : Nat
  releasing : Bool
  phase     : ChimePhase
  offset    : Nat
  loops     : Option Nat
  level     : Nat
  order     : Nat
  due       : Option VoiceEnd
deriving DecidableEq, Repr

/-- A saved position of the suspend list (R153). -/
structure Saved where
  chime  : Nat
  phase  : ChimePhase
  offset : Nat
  loops  : Option Nat
deriving DecidableEq, Repr

/-- The Chime Engine (R153): a voice none is FREE; the suspend list's head is its top; the queue is highest priority
first. `starts` hands out start orders. -/
structure ChimeEngine where
  voices    : PerVoice (Option Voice)
  suspended : List Saved
  queue     : List Nat
  level     : Nat
  starts    : Nat
deriving DecidableEq, Repr

end Sys2Proof.Machine
end

