-- ==== Sys2Proof/Machine/Operands.lean ====
section
/-! DEFINITION. What a command's operands spell: received parcels word by word (R1 to R6), the check word, the pixel
packing, the parcels the part assembles (R13), requests (R18, Table 2-1), and runs of pin samples (R99, R122). -/

namespace Sys2Proof.Machine

/-! The check word (R5) -/

/-- One data bit enters the check register. -/
def crcBit (reg : Word) (bit : Bool) : Word :=
  if reg.msb = bit then reg <<< 1 else (reg <<< 1) ^^^ 0x1021

/-- One word enters the check register, bit 15 first. -/
def crcWord (reg w : Word) : Word :=
  (List.range 16).foldl (fun r k => crcBit r (w.getLsbD (15 - k))) reg

/-- The check word over header and payload words. -/
def checkWord (ws : List Word) : Word := ws.foldl crcWord 0xFFFF

/-! Headers and kinds (R1 to R3) -/

/-- The header fields (Table 1-2). `line` and `tag` read the same place of word 2 (R2). -/
structure Header where
  kind    : Nat
  station : Nat
  prog    : Prog
  picTag  : Tag
  count   : Nat
  line    : Nat
  tag     : Byte
deriving DecidableEq, Repr

/-- A two-bit field as a number 0 to 3. -/
def fin4 (b : BitVec 2) : Fin 4 := b.toFin

def parseHeader (w0 w1 w2 : Word) : Header where
  kind := (w0.extractLsb' 12 4).toNat
  station := (w0.extractLsb' 8 4).toNat
  prog := fin4 (w0.extractLsb' 6 2)
  picTag := fin4 (w0.extractLsb' 4 2)
  count := (w1.extractLsb' 0 11).toNat
  line := (w2.extractLsb' 0 10).toNat
  tag := w2.extractLsb' 0 8

/-- The kinds defined for the downstream direction (Table 1-1, R6 step 4). -/
inductive DownKind where
  | fill | pictureLine | pictureMark | sound | request
deriving DecidableEq, Repr

def downKind : Nat → Option DownKind
  | 0 => some .fill
  | 1 => some .pictureLine
  | 2 => some .pictureMark
  | 3 => some .sound
  | 4 => some .request
  | _ => none

/-- Table 1-3. -/
def countLegal : DownKind → Nat → Bool
  | .fill, n => decide (n = 0)
  | .pictureLine, n => decide (2 ≤ n ∧ n ≤ 1920 ∧ n % 3 ≠ 1)
  | .pictureMark, n => decide (n = 2)
  | .sound, n => decide (2 ≤ n ∧ n ≤ 128 ∧ n % 2 = 0)
  | .request, n => decide (1 ≤ n ∧ n ≤ 48)

/-- A valid downstream parcel. -/
structure Parcel where
  kind    : DownKind
  header  : Header
  payload : List Word
deriving DecidableEq, Repr

/-- The outcome of R6: valid, or counted in CHECK_FAIL or in BAD_PARCEL. -/
inductive Reception where
  | valid (p : Parcel)
  | checkFail
  | badParcel
deriving DecidableEq, Repr

/-- Tests 3 to 5 of R6 on a parcel whose check word is correct. -/
def receiveBody (h : Header) (payload : List Word) : Reception :=
  if h.count ≠ payload.length then .badParcel
  else match downKind h.kind with
    | none => .badParcel
    | some k => if countLegal k payload.length then .valid ⟨k, h, payload⟩ else .badParcel

/-- The five tests of R6 in their order, on the words handed over by the physical layer. -/
def classify : List Word → Reception
  | w0 :: w1 :: w2 :: x :: xs =>
    let rest := x :: xs
    if checkWord (w0 :: w1 :: w2 :: rest.dropLast) ≠ rest.getLastD 0 then .checkFail
    else receiveBody (parseHeader w0 w1 w2) rest.dropLast
  | _ => .checkFail

/-! Pixels (R4) -/

/-- Channels of the words in order, the upper 8 bits first. -/
def wordBytes : List Word → List Byte
  | [] => []
  | w :: ws => w.hi :: w.lo :: wordBytes ws

/-- Three channels make a pixel; a channel left over is unused. -/
def bytePixels : List Byte → List Rgb
  | r :: g :: b :: rest => ⟨r, g, b⟩ :: bytePixels rest
  | _ => []

/-- The pixels of a PICTURE_LINE payload. -/
def unpackPixels (ws : List Word) : List Rgb := bytePixels (wordBytes ws)

/-- The payload of a PICTURE_LINE with these pixels; the lower half of a half-filled last word is 0 (R1). -/
def packPixels : List Rgb → List Word
  | p :: q :: rest => Word.ofBytes p.r p.g :: Word.ofBytes p.b q.r :: Word.ofBytes q.g q.b :: packPixels rest
  | [p] => [Word.ofBytes p.r p.g, Word.ofBytes p.b 0]
  | [] => []

/-- The frames of a SOUND payload (R3). -/
def unpackFrames : List Word → List Stereo
  | l :: r :: rest => ⟨l, r⟩ :: unpackFrames rest
  | _ => []

/-! Upstream parcels (R13) -/

/-- Header, payload and check word, unused fields zero. -/
def assemble (kind : Nat) (strap : BitVec 4) (source : Nat) (tag : Tag) (w2 : Word) (payload : List Word) : List Word :=
  let w0 : Word := BitVec.ofNat 16 (kind * 4096 + strap.toNat * 256 + source * 64 + tag.val * 16)
  let body := w0 :: BitVec.ofNat 16 payload.length :: w2 :: payload
  body ++ [checkWord body]

def ReplyCode.toNat : ReplyCode → Nat
  | .done => 0
  | .state => 1
  | .table => 2
  | .index => 3
  | .value => 4
  | .pending => 5
  | .inUse => 6
  | .length => 7
  | .unknown => 8

/-- Table 2-8. -/
def NoticeKind.code : NoticeKind → Nat
  | .select => 1
  | .route => 2
  | .group => 3
  | .camera => 4
  | .steer => 5
  | .reverse => 6
  | .picture => 7
  | .sound => 8
  | .link => 9

def PictureSource.code : PictureSource → Nat
  | .camera => 0
  | .mirror => 1

def fillParcel (strap : BitVec 4) : List Word := assemble 0 strap 0 0 0 []

def replyParcel (strap : BitVec 4) (r : Reply) : List Word :=
  assemble 9 strap 0 0 (r.tag.setWidth 16) (BitVec.ofNat 16 r.code.toNat :: r.data)

def noticeParcel (strap : BitVec 4) (n : Notice) : List Word :=
  assemble 10 strap 0 0 0
    [BitVec.ofNat 16 n.kind.code, n.detail, n.value, n.time.extractLsb' 16 16, n.time.extractLsb' 0 16]

def pictureParcel (strap : BitVec 4) : UpPicture → List Word
  | .mark src tag w h => assemble 2 strap src.code tag 0 [BitVec.ofNat 16 w, BitVec.ofNat 16 h]
  | .line src tag n px => assemble 1 strap src.code tag (BitVec.ofNat 16 n) (packPixels px)

/-! Requests (R18, Table 2-1) -/

inductive RequestName where
  | point | put | get | commit | start | restart | vehicle | view | hold | release | key | openPage | chime | stopChime
  | resume
deriving DecidableEq, Repr

def requestName : Nat → Option RequestName
  | 1 => some .point
  | 2 => some .put
  | 3 => some .get
  | 4 => some .commit
  | 5 => some .start
  | 6 => some .restart
  | 7 => some .vehicle
  | 8 => some .view
  | 9 => some .hold
  | 10 => some .release
  | 11 => some .key
  | 12 => some .openPage
  | 13 => some .chime
  | 14 => some .stopChime
  | 15 => some .resume
  | _ => none

/-- The name a payload opens with, or none where its name word lies outside 1 to 15. -/
def QueuedRequest.name (r : QueuedRequest) : Option RequestName := requestName (r.payload.headD 0).toNat

/-- Argument k (from 0) as a number: payload word k + 1. -/
def QueuedRequest.arg (r : QueuedRequest) (k : Nat) : Nat := (r.payload.getD (k + 1) 0).toNat

/-- The payload word count of Table 2-1. PUT expects 2 plus its count argument, and at least its count argument. -/
def lengthRight (n : RequestName) (r : QueuedRequest) : Bool :=
  match n with
  | .point | .key | .openPage => decide (r.payload.length = 3)
  | .put => decide (2 ≤ r.payload.length ∧ r.payload.length = 2 + r.arg 0)
  | .get | .commit | .restart | .vehicle | .view | .chime | .stopChime | .resume => decide (r.payload.length = 2)
  | .start | .hold | .release => decide (r.payload.length = 1)

/-- Step 3 of R18: what the service state allows (R24). -/
def serviceAllows (n : RequestName) (v : Service) : Bool :=
  match n, v with
  | .key, .cameraOnly | .openPage, .cameraOnly | .resume, .cameraOnly => false
  | .start, .media => false
  | _, _ => true

/-- Step 4 of R18: the argument ranges of Table 2-1. -/
def argsRight (n : RequestName) (r : QueuedRequest) : Bool :=
  match n with
  | .put | .get => decide (1 ≤ r.arg 0 ∧ r.arg 0 ≤ Config.transferMax)
  | .commit | .view => decide (r.arg 0 ≤ 2)
  | .restart | .vehicle | .resume => decide (r.arg 0 ≤ 1)
  | .key => decide (r.arg 0 ≤ 1 ∧ r.arg 1 ≤ 6)
  | .openPage => decide (r.arg 0 ≤ 1)
  | .stopChime => decide (r.arg 0 < Config.chimeCount)
  | .point | .start | .hold | .release | .chime => true

/-- Steps 2 to 4 of R18: the code of the first test that fails. -/
def requestRefusal (n : RequestName) (v : Service) (r : QueuedRequest) : Option ReplyCode :=
  if !lengthRight n r then some .length
  else if !serviceAllows n v then some .state
  else if !argsRight n r then some .value
  else none

def sideOf (n : Nat) : Side := if n = 0 then .a else .b

/-- Table 2-1, KEY. -/
def keyOf : Nat → Key
  | 0 => .menu
  | 1 => .up
  | 2 => .down
  | 3 => .select
  | 4 => .back
  | 5 => .volUp
  | _ => .volDown

/-- UP, DOWN, VOL_UP and VOL_DOWN have repeat timers (R123). -/
def keyRepeats : Key → Bool
  | .up | .down | .volUp | .volDown => true
  | .menu | .select | .back => false

/-! Pin samples (R99, R122) -/

/-- One sample of a debounced pin: a run of 20 samples at the other level passes it. -/
def Debouncer.sample (d : Debouncer) (level : Bool) : Debouncer :=
  if level = d.level then { d with run := 0 }
  else if d.run + 1 ≥ Config.debounceSamples then ⟨level, 0⟩
  else { d with run := d.run + 1 }

/-- Whether the last 20 samples all show a level: such a run ends with the debounced level at it. -/
def endsAt (samples : List Bool) (level : Bool) : Bool :=
  decide (Config.debounceSamples ≤ samples.length) &&
    (samples.drop (samples.length - Config.debounceSamples)).all fun x => x == level

end Sys2Proof.Machine
end

