-- ==== Sys2Proof/Machine/Defaults.lean ====
section
/-! DEFINITION. The value each block takes at a power-on reset, a pin reset and a full restart (Tables 1-7, 3-3, 4-7, 5-6,
6-4, 7-5, 8-5 and 10-2, R28, R34, R140, R146). -/

namespace Sys2Proof.Machine

/-- R34: every table at its default, every group IDLE. -/
def resetTables : TableStore where
  control := defaultControl
  raster := []
  route := defaultRoute
  steering := defaultSteering
  pages := []
  items := []
  tiles := []
  palettes := []
  chimes := []
  waves := []
  mixer := defaultMixer
  stats := []
  camera := ⟨defaultCamera, defaultCamera, .idle⟩
  composeA := ⟨[], [], .idle⟩
  composeB := ⟨[], [], .idle⟩

/-- R28, R42. -/
def resetNotices : NoticeQueue := ⟨[], 0⟩

/-- R43. -/
def clearFormat : Format := ⟨0, 0, none⟩

def clearFormats : Quad Format := ⟨clearFormat, clearFormat, clearFormat, clearFormat⟩

/-- R49: the reader after each kind of reset. -/
def resetReader : Reader where
  picture := .noSource
  route := none
  openTag := 0
  phase := .after
  nextLine := 0
  misses := 0
  lastRow := none
  resume := false
  opened := false

/-- A stopped display after each kind of reset (Tables 3-3 and 4-7). -/
def stoppedDisplay : Display where
  store := []
  reader := resetReader
  comp := none
  menu := none
  banner := none
  raster := none
  rowOut := []

def clearMirror : Mirror := ⟨none, 0⟩

/-- Table 5-6. The filter levels before the first sample are DESIGN CHOICE low (log 24): that sample replaces them. -/
def resetSteering : Steering where
  state := .unreferenced
  count := 0
  limitFlag := false
  faults := 0
  capCount := 0
  capState := .unreferenced
  filtA := ⟨false, 0⟩
  filtB := ⟨false, 0⟩
  filtIx := ⟨false, 0⟩
  prevA := false
  prevB := false
  prevIx := false
  lastDir := none
  fresh := true

/-- R91: the latched descriptor is words 0 to 28 of the default bank. -/
def defaultDescriptor : Table := defaultCamera.slice 0 29

/-- Table 6-4, with the free-run timer as given: it starts at the release, or when a full restart takes effect. The
line-seen flag and the line number are DESIGN CHOICE clear and 0 (log 24): a frame sync sets both before their use. -/
def resetCamera (freeRun : Option Nat) : CameraInput where
  state := .noSignal
  good := 0
  bad := 0
  watch := none
  lineSeen := false
  freeRun := freeRun
  latched := defaultDescriptor
  synced := false
  measured := none
  line := 0
  frameNo := 0
  frame := none
  buffer := []

/-- Table 7-5. -/
def resetGuide : GuideOverlay := ⟨[], .free, false⟩

/-- Table 6-4, with the AUTOCAM strap as held. -/
def resetRear (autocam : Bool) : RearView where
  reversePin := ⟨false, 0⟩
  calPin := ⟨false, 0⟩
  inband := false
  reverse := .off
  linger := none
  requested := .none
  bankLoaded := false
  autocam := autocam
  actual := .none
  camFlag := none
  camTag := 0
  queue := []

/-- Table 8-5. -/
def resetMenu : Menu := ⟨[], none, none, PerKey.all ⟨false, 0⟩, PerKey.all none⟩

def emptyRing : Ring := ⟨.unrouted, []⟩

/-- R140. -/
def emptyRings : Quad Ring := ⟨emptyRing, emptyRing, emptyRing, emptyRing⟩

/-- R146, sending `out` until the next tick (R150). -/
def resetOutlet (out : Stereo) : OutletState := ⟨none, none, 0, Config.unity, out⟩

/-- Table 10-2. -/
def resetChimes : ChimeEngine := ⟨⟨none, none, none⟩, [], [], 0, 0⟩

/-- R17, R19, R24, R28. -/
def resetUnit (cause : ResetCause) : RequestUnit := ⟨[], .ready, ⟨.ident, 0⟩, .cameraOnly, cause⟩

/-- Table 1-7. -/
def resetLink (strap : BitVec 4) (sending : List Word) : LinkPort := ⟨strap, false, false, false, none, sending⟩

end Sys2Proof.Machine
end

