-- ==== Sys2Proof/Machine/State.lean ====
section
/-! DEFINITION. The state of the part, the reasons a step can stop, and the part right after reset. -/

namespace Sys2Proof.Machine

/-- The part raises no fault: the spec gives every event an effect (a damaged parcel is counted, a refused request is
answered, an illegal steering transition is a state of the Steering Counter). Nothing raises one, which is safe. -/
inductive Fault where
deriving DecidableEq, Repr

/-- Why a command could be refused. -/
inductive Refusal where
  /-- Raised by exec for a row that has no meaning yet; no arm raises it. Safe: nothing is claimed of such a row. -/
  | notModelled (mnemonic : String)
deriving DecidableEq, Repr

/-- The reset that holds the part until its release (R28). -/
inductive ResetKind where
  | power | pin
deriving DecidableEq, Repr

/-- The whole state of the part, block by block (INVENTORY.md, State), and the commands that wait. -/
structure State where
  /-- The reset in force, from its beginning to its release (R28). -/
  held    : Option ResetKind
  link    : LinkPort
  unit    : RequestUnit
  tables  : TableStore
  notices : NoticeQueue
  formats : Quad Format
  disp    : Pair Display
  mirror  : Mirror
  steer   : Steering
  camera  : CameraInput
  guide   : GuideOverlay
  rear    : RearView
  menus   : Pair Menu
  rings   : Quad Ring
  outlets : PerOutlet OutletState
  chimes  : ChimeEngine
  /-- The commands that wait, first in first out (log 2). -/
  pending : List Instr
deriving DecidableEq, Repr

/-- Every block at its reset value, with what the kinds of reset set differently. -/
def State.blank (held : Option ResetKind) (strap : BitVec 4) (autocam : Bool) (cause : ResetCause) (sending : List Word)
    (freeRun : Option Nat) (outs : PerOutlet Stereo) (pending : List Instr) : State where
  held := held
  link := resetLink strap sending
  unit := resetUnit cause
  tables := resetTables
  notices := resetNotices
  formats := clearFormats
  disp := ⟨stoppedDisplay, stoppedDisplay⟩
  mirror := clearMirror
  steer := resetSteering
  camera := resetCamera freeRun
  guide := resetGuide
  rear := resetRear autocam
  menus := ⟨resetMenu, resetMenu⟩
  rings := emptyRings
  outlets := ⟨resetOutlet outs.zoneA, resetOutlet outs.zoneB, resetOutlet outs.cabin⟩
  chimes := resetChimes
  pending := pending

/-- The part right after the release of a power-on reset. The strap levels are pins: DESIGN CHOICE station strap 0 and
AUTOCAM 0 (log 1), unsafe; RESET_RELEASE samples any others. -/
def State.reset : State :=
  State.blank none 0 false .power (fillParcel 0) (some Config.freeRunDefault)
    ⟨Stereo.silence, Stereo.silence, Stereo.silence⟩ []

end Sys2Proof.Machine
end

