-- ==== Sys2Proof/Machine/Flags.lean ====
section
/-! DEFINITION. The part's counters and notices: the STATS counters (R23, Table 2-3) and the Notice Queue (R38 to R42). -/

namespace Sys2Proof.Machine

/-! STATS counters (Table 2-3): their word indices -/

def cntCheckFail : Nat := 0
def cntBadParcel : Nat := 1
def cntUpDiscards : Nat := 2
def cntDroppedRequests : Nat := 3
/-- MALFORMED of a display's store; LATE, OVERFLOW, SKIPPED and UNUSED follow it. -/
def cntMalformed : Side → Nat
  | .a => 4
  | .b => 9
def cntLate (d : Side) : Nat := cntMalformed d + 1
def cntOverflow (d : Side) : Nat := cntMalformed d + 2
def cntSkipped (d : Side) : Nat := cntMalformed d + 3
def cntUnused (d : Side) : Nat := cntMalformed d + 4
def cntRowDrops : Nat := 14
def cntPictureDrops : Nat := 15
def cntSoundOverflow (p : Prog) : Nat := 16 + p.val
def cntUnderrun (p : Prog) : Nat := 20 + p.val
def cntClip : Outlet → Nat
  | .zoneA => 24
  | .zoneB => 25
  | .cabin => 26
/-- Words 0 to 26 of STATS are counters (R23). -/
def counterCount : Nat := 27

/-- A counter after `n` events: it stops at 65,535 (R23). -/
def countUp (stats : Table) (i n : Nat) : Table :=
  if n = 0 then stats else stats.write i (BitVec.ofNat 16 (min (stats.nat i + n) Config.counterMax))

/-- The state with `n` events counted under counter `i`. -/
def State.bump (s : State) (i n : Nat) : State :=
  { s with tables := { s.tables with stats := countUp s.tables.stats i n } }

/-! Notices -/

/-- CONTROL words 0 to 8 enable the kinds in the order of their codes (Table 2-4). -/
def noticeEnabled (control : Table) (k : NoticeKind) : Bool := decide (control.nat (k.code - 1) = 1)

/-- Two records are from one state source when kind and source detail agree (Table 2-8). -/
def Notice.from (n : Notice) (kind : NoticeKind) (detail : Word) : Bool :=
  decide (n.kind = kind ∧ n.detail = detail)

/-- A state notice offered to the queue (R40): dropped when disabled, merged into its source's record, or queued. -/
def NoticeQueue.offer (q : NoticeQueue) (enabled : Bool) (kind : NoticeKind) (detail value : Word) : NoticeQueue :=
  if !enabled then q
  else if q.records.any (fun n => n.from kind detail) then
    { q with records := q.records.map fun n =>
        if n.from kind detail then { n with value := value, time := q.time } else n }
  else { q with records := q.records ++ [⟨kind, detail, value, q.time⟩] }

/-- How many SELECT records the queue holds. -/
def NoticeQueue.selects (q : NoticeQueue) : Nat := q.records.countP fun n => decide (n.kind = .select)

/-- Whether a SELECT notice is accepted (R41). -/
def NoticeQueue.acceptsSelect (q : NoticeQueue) (enabled : Bool) : Bool :=
  !enabled || decide (q.records.length < Config.noticeDepth ∧ q.selects < Config.selectDepth)

/-- A SELECT notice offered to the queue (R41): an accepted one joins the tail, a disabled or refused one leaves the queue
as it is. -/
def NoticeQueue.offerSelect (q : NoticeQueue) (enabled : Bool) (detail value : Word) : NoticeQueue :=
  if enabled && q.acceptsSelect enabled then { q with records := q.records ++ [⟨.select, detail, value, q.time⟩] } else q

/-- A block offers a state notice (R40). -/
def State.offerNotice (s : State) (kind : NoticeKind) (detail value : Word) : State :=
  { s with notices := s.notices.offer (noticeEnabled s.tables.control kind) kind detail value }

/-- Table 2-8, the values of each kind. -/
def GroupState.code : GroupState → Word
  | .idle => 0
  | .swapPending => 1
  | .copying => 2
def GroupId.code : GroupId → Word
  | .camera => 0
  | .composeA => 1
  | .composeB => 2
def CameraState.code : CameraState → Word
  | .noSignal => 0
  | .acquiring => 1
  | .locked => 2
def SteerState.code : SteerState → Word
  | .off => 0
  | .unreferenced => 1
  | .referenced => 2
  | .fault => 3
def ReverseState.code : ReverseState → Byte
  | .off => 0
  | .on => 1
  | .linger => 2
def View.code : View → Byte
  | .none => 0
  | .camera => 1
  | .mirror => 2
def Picture.code : Picture → Word
  | .noSource => 0
  | .playing => 1
  | .stalled => 2
  | .halted => 3
def SoundState.code : SoundState → Word
  | .unrouted => 0
  | .priming => 1
  | .playing => 2
def sideCode : Side → Word
  | .a => 0
  | .b => 1

end Sys2Proof.Machine
end

