-- ==== Sys2Proof/Machine/Ops.lean ====
section
/-! DEFINITION. The named operations several blocks share: taking an event while no reset holds the part, offering an
upstream picture, replies and their report, the group exchange, and reading a table word. -/

namespace Sys2Proof.Machine

/-- What a command answers. -/
abbrev Result := Host.Outcome State Fault Refusal

/-- An event takes its effect unless a reset holds the part, which stays in its reset state until release (R28, log 10). -/
def whenLive (s : State) (f : State → State) : Result :=
  .next (if s.held = none then f s else s)

/-- The displays run exactly in MEDIA (R25, R62). -/
def State.media (s : State) : Bool := decide (s.unit.service = .media)

def State.setDisp (s : State) (d : Side) (x : Display) : State := { s with disp := s.disp.set d x }

def State.setMenu (s : State) (seat : Side) (m : Menu) : State := { s with menus := s.menus.set seat m }

/-! Upstream pictures (R12, R104) -/

/-- A picture parcel is offered to the upstream picture queue: while the upstream link is not ready the Link Port takes
and discards it (R12), a full queue drops it (R104). -/
def State.offerPicture (s : State) (p : UpPicture) : State :=
  if !s.link.up then s.bump cntUpDiscards 1
  else if s.rear.queue.length < Config.upstreamDepth then
    { s with rear := { s.rear with queue := s.rear.queue ++ [p] } }
  else s.bump cntPictureDrops 1

/-! Replies (R14, R17) -/

/-- The Link Port reports that a reply has left the slot: if it answers a RESTART, the restart is due (R17, R26). -/
def RequestUnit.report (u : RequestUnit) (r : Reply) : RequestUnit :=
  match r.restart with
  | none => u
  | some k => { u with status := .restarting k true }

/-- The unit after it has handed a reply over: READY, or RESTARTING until the report (R17). -/
def RequestUnit.handedOver (u : RequestUnit) (r : Reply) : RequestUnit :=
  match r.restart with
  | none => { u with status := .ready }
  | some k => { u with status := .restarting k false }

/-- A reply is handed to the empty reply slot; while the upstream link is not ready it is discarded on hand-off and
counted, with the same report (R12, R14). -/
def State.handOff (s : State) (r : Reply) : State :=
  if s.link.up then
    { s with link := { s.link with slot := some r }, unit := s.unit.handedOver r }
  else
    { (s.bump cntUpDiscards 1) with unit := (s.unit.handedOver r).report r }

/-- The reply slot's reply leaves it (sent or discarded), with the report back (R14). -/
def State.emptySlot (s : State) : State :=
  match s.link.slot with
  | none => s
  | some r => { s with link := { s.link with slot := none }, unit := s.unit.report r }

/-! Banked groups (R37) -/

/-- What the consumer's frame start makes of a group: the swap, or the copy-back. -/
def Group.frameStart (g : Group) : Group :=
  match g.state with
  | .idle => g
  | .swapPending => ⟨g.active, g.staging, .copying⟩
  | .copying => ⟨g.active, g.active, .idle⟩

/-- Whether the next frame start swaps the banks. -/
def Group.swaps (g : Group) : Bool := decide (g.state = .swapPending)

/-- Swap and copy at once: a COMMIT while the consumer is stopped. -/
def Group.commitNow (g : Group) : Group := ⟨g.staging, g.staging, .idle⟩

/-- A media restart completes the waiting swap and copy at once. -/
def Group.complete (g : Group) : Group :=
  match g.state with
  | .idle => g
  | .swapPending => ⟨g.staging, g.staging, .idle⟩
  | .copying => ⟨g.active, g.active, .idle⟩

def TableStore.group (t : TableStore) : GroupId → Group
  | .camera => t.camera
  | .composeA => t.composeA
  | .composeB => t.composeB

def TableStore.setGroup (t : TableStore) (i : GroupId) (g : Group) : TableStore :=
  match i with
  | .camera => { t with camera := g }
  | .composeA => { t with composeA := g }
  | .composeB => { t with composeB := g }

/-- The composition group of a display (Table 2-6). -/
def composeOf : Side → GroupId
  | .a => .composeA
  | .b => .composeB

def State.setGroup (s : State) (i : GroupId) (g : Group) : State := { s with tables := s.tables.setGroup i g }

/-- The group a table is the staging bank of (Table 2-6). -/
def stagingOf : TableId → Option GroupId
  | .camera => some .camera
  | .composeA => some .composeA
  | .composeB => some .composeB
  | _ => none

/-! Reading a table word (R22, R33, R88) -/

/-- Table 2-5. -/
def State.identWord (s : State) (i : Nat) : Word :=
  match i with
  | 0 => Config.partCode
  | 1 => Config.version
  | 2 => s.link.strap.setWidth 16
  | 3 => if s.rear.autocam then 1 else 0
  | 4 => match s.unit.cause with
    | .none => 0
    | .power => 1
    | .pin => 2
    | .full => 3
    | .media => 4
  | 5 => s.notices.time.extractLsb' 16 16
  | 6 => s.notices.time.extractLsb' 0 16
  | 7 => match s.unit.service with
    | .cameraOnly => 0
    | .media => 1
  | 8 => if s.rear.bankLoaded then 1 else 0
  | _ => 0

/-- Table 5-1: the setup words, then the live status and the last frame capture (R88). -/
def State.steerWord (s : State) (i : Nat) : Word :=
  match i with
  | 6 => s.steer.state.code
  | 7 => BitVec.ofInt 16 s.steer.count
  | 8 => if s.steer.limitFlag then 1 else 0
  | 9 => BitVec.ofNat 16 s.steer.faults
  | 10 => BitVec.ofInt 16 s.steer.capCount
  | 11 => s.steer.capState.code
  | _ => if i < 6 then s.tables.steering.read i else 0

/-- A word of a table as a GET reads it. -/
def State.readWord (s : State) (t : TableId) (i : Nat) : Word :=
  match t with
  | .ident => s.identWord i
  | .control => s.tables.control.read i
  | .raster => s.tables.raster.read i
  | .composeA => s.tables.composeA.staging.read i
  | .composeB => s.tables.composeB.staging.read i
  | .route => s.tables.route.read i
  | .steering => s.steerWord i
  | .camera => s.tables.camera.staging.read i
  | .pages => s.tables.pages.read i
  | .items => s.tables.items.read i
  | .tiles => s.tables.tiles.read i
  | .palettes => s.tables.palettes.read i
  | .chimes => s.tables.chimes.read i
  | .waves => s.tables.waves.read i
  | .mixer => s.tables.mixer.read i
  | .stats => s.tables.stats.read i
  | .composeAActive => s.tables.composeA.active.read i
  | .composeBActive => s.tables.composeB.active.read i
  | .cameraActive => s.tables.camera.active.read i

/-- Words of a table at consecutive indices. -/
def State.readRun (s : State) (t : TableId) (i n : Nat) : List Word :=
  (List.range n).map fun k => s.readWord t (i + k)

/-- The programme a ROUTE word names; 15 is NONE (R21). -/
def routeProg (w : Word) : Option Prog :=
  if h : w.toNat < 4 then some ⟨w.toNat, h⟩ else none

/-- The first test that fails names its word (R61, R66, R91, R110). -/
def firstFailing : List (Bool × Nat) → Option Nat
  | [] => none
  | (ok, w) :: rest => if ok then firstFailing rest else some w

end Sys2Proof.Machine
end

