-- ==== Sys2Proof/Machine/Chimes.lean ====
section
/-! DEFINITION. The Chime Engine (10_chimes): descriptors, playback, settlement, preemption, the pending queue, voices
becoming free, the admission level, and the two commands that carry out a voice's end. -/

namespace Sys2Proof.Machine

/-- A chime descriptor with every word treated as Table 10-1 gives. `loops` none is until stopped. -/
structure ChimeDesc where
  start    : Nat
  head     : Nat
  loop     : Nat
  loops    : Option Nat
  level    : Nat
  priority : Nat
  outlets  : Nat
  retain   : Bool
  duck     : Bool
deriving DecidableEq, Repr

/-- Descriptor `n` of CHIMES (R152). -/
def chimeDesc (chimes : Table) (n : Nat) : ChimeDesc where
  start := chimes.nat (8 * n)
  head := chimes.nat (8 * n + 1)
  loop := chimes.nat (8 * n + 2)
  loops := if chimes.nat (8 * n + 3) = 0 then none else some (min (chimes.nat (8 * n + 3)) 255)
  level := min (chimes.nat (8 * n + 4)) Config.unity
  priority := min (chimes.nat (8 * n + 5)) 7
  outlets := chimes.nat (8 * n + 6) % 8
  retain := (chimes.nat (8 * n + 7)).testBit 0
  duck := (chimes.nat (8 * n + 7)).testBit 1

/-- A descriptor whose head and loop lengths are both 0 is empty (R152). -/
def chimeEmpty (chimes : Table) (n : Nat) : Bool :=
  decide ((chimeDesc chimes n).head = 0 ∧ (chimeDesc chimes n).loop = 0)

/-- The priority of a chime. -/
def prioOf (chimes : Table) (n : Nat) : Nat := (chimeDesc chimes n).priority

/-- Whether a chime's outlets name an outlet (Table 10-1, word 6). -/
def ChimeDesc.names (d : ChimeDesc) : Outlet → Bool
  | .zoneA => d.outlets.testBit 0
  | .zoneB => d.outlets.testBit 1
  | .cabin => d.outlets.testBit 2

/-! Starting (R154) -/

/-- A chime starts on a voice, from its head, at its level, as the latest-started voice. -/
def ChimeEngine.startOn (c : ChimeEngine) (chimes : Table) (v : VoiceId) (n : Nat) : ChimeEngine :=
  let d := chimeDesc chimes n
  { c with
    voices := c.voices.set v (some
      ⟨n, false, if d.head = 0 then .loop else .head, 0, d.loops, d.level, c.starts, none⟩)
    starts := c.starts + 1 }

/-- A suspended chime resumes on a voice from its saved position at its level (R159). -/
def ChimeEngine.resumeOn (c : ChimeEngine) (chimes : Table) (v : VoiceId) (p : Saved) : ChimeEngine :=
  { c with
    voices := c.voices.set v (some
      ⟨p.chime, false, p.phase, p.offset, p.loops, (chimeDesc chimes p.chime).level, c.starts, none⟩)
    starts := c.starts + 1 }

/-! Voices becoming free (R159) -/

/-- A FREE voice takes a candidate: the top of the suspend list or the head of the pending queue, each only at or above
the admission level, the higher priority first, the suspended one on a tie. -/
def ChimeEngine.takeCandidate (c : ChimeEngine) (chimes : Table) (v : VoiceId) : ChimeEngine :=
  let top := c.suspended.head?.filter fun p => decide (c.level ≤ prioOf chimes p.chime)
  let head := c.queue.head?.filter fun n => decide (c.level ≤ prioOf chimes n)
  match top, head with
  | none, none => c
  | some p, none => ChimeEngine.resumeOn { c with suspended := c.suspended.tail } chimes v p
  | none, some n => ChimeEngine.startOn { c with queue := c.queue.tail } chimes v n
  | some p, some n =>
    if prioOf chimes n > prioOf chimes p.chime then ChimeEngine.startOn { c with queue := c.queue.tail } chimes v n
    else ChimeEngine.resumeOn { c with suspended := c.suspended.tail } chimes v p

def ChimeEngine.isFree (c : ChimeEngine) (v : VoiceId) : Bool := (c.voices.get v).isNone

def ChimeEngine.freeVoice (c : ChimeEngine) (v : VoiceId) : ChimeEngine := { c with voices := c.voices.set v none }

/-- The end a voice's last tick brought it to, if any. -/
def ChimeEngine.dueAt (c : ChimeEngine) (v : VoiceId) : Option VoiceEnd := (c.voices.get v).bind fun x => x.due

/-- A voice whose end is due becomes FREE and takes a candidate (R154, R155, R159). -/
def ChimeEngine.endVoice (c : ChimeEngine) (chimes : Table) (v : VoiceId) : ChimeEngine :=
  if (c.dueAt v).isSome then (c.freeVoice v).takeCandidate chimes v else c

/-- Every end that the last tick brought comes about, lowest-numbered voice first (R159, log 8). -/
def ChimeEngine.settleEnds (c : ChimeEngine) (chimes : Table) : ChimeEngine :=
  ((c.endVoice chimes .v0).endVoice chimes .v1).endVoice chimes .v2

/-- The lowest-numbered voice whose end is due, with that end. -/
def ChimeEngine.firstDue (c : ChimeEngine) : Option (VoiceId × VoiceEnd) :=
  match c.dueAt .v0, c.dueAt .v1, c.dueAt .v2 with
  | some e, _, _ => some (.v0, e)
  | none, some e, _ => some (.v1, e)
  | none, none, some e => some (.v2, e)
  | none, none, none => none

/-! The pending queue (R158) -/

/-- Behind every queued chime of its own or higher priority. -/
def insertChime (chimes : Table) (n : Nat) : List Nat → List Nat
  | [] => [n]
  | m :: rest => if prioOf chimes n > prioOf chimes m then n :: m :: rest else m :: insertChime chimes n rest

/-- A chime is offered to the pending queue. With 8 held, the newest chime of the lowest priority, which stands last, is
evicted for a higher one. -/
def offerChime (chimes : Table) (n : Nat) (q : List Nat) : List Nat :=
  if q.length < Config.pendingDepth then insertChime chimes n q
  else match q.getLast? with
    | none => q
    | some low => if prioOf chimes n > prioOf chimes low then insertChime chimes n q.dropLast else q

/-- Retained chimes are offered to the queue; others are dropped (R156 steps 4 and 7). -/
def ChimeEngine.queueOrDrop (c : ChimeEngine) (chimes : Table) (n : Nat) : ChimeEngine :=
  if (chimeDesc chimes n).retain then { c with queue := offerChime chimes n c.queue } else c

/-! Settling a request (R156, R157) -/

def voiceSounds (x : Option Voice) : Bool :=
  match x with
  | some v => !v.releasing
  | none => false

/-- The voice a chime is on, SOUNDING or RELEASING. -/
def ChimeEngine.voiceOf (c : ChimeEngine) (n : Nat) : Option VoiceId :=
  [VoiceId.v0, .v1, .v2].find? fun v => match c.voices.get v with
    | some x => decide (x.chime = n)
    | none => false

/-- The lowest-numbered FREE voice. -/
def ChimeEngine.lowestFree (c : ChimeEngine) : Option VoiceId :=
  [VoiceId.v0, .v1, .v2].find? fun v => c.isFree v

/-- Whether a chime waits in the pending queue or on the suspend list. -/
def ChimeEngine.waits (c : ChimeEngine) (n : Nat) : Bool :=
  c.queue.contains n || c.suspended.any fun p => decide (p.chime = n)

/-- Whether voice `x` is a better victim than `y`: lower priority, or later started at the same one (R157). -/
def victimBefore (chimes : Table) (x y : Voice) : Bool :=
  decide (prioOf chimes x.chime < prioOf chimes y.chime ∨
    (prioOf chimes x.chime = prioOf chimes y.chime ∧ y.order < x.order))

/-- The latest-started SOUNDING voice of the lowest priority among the SOUNDING voices (R157). -/
def ChimeEngine.victim (c : ChimeEngine) (chimes : Table) : Option (VoiceId × Voice) :=
  let pick (best : Option (VoiceId × Voice)) (v : VoiceId) : Option (VoiceId × Voice) :=
    match c.voices.get v with
    | none => best
    | some x =>
      if x.releasing then best
      else match best with
        | none => some (v, x)
        | some (_, y) => if victimBefore chimes x y then some (v, x) else best
  pick (pick (pick none .v0) .v1) .v2

/-- The position a suspended voice saves. -/
def Voice.saved (x : Voice) : Saved := ⟨x.chime, x.phase, x.offset, x.loops⟩

/-- Preemption (R157), or the pending queue (step 7 of R156). -/
def ChimeEngine.preempt (c : ChimeEngine) (chimes : Table) (n : Nat) : ChimeEngine :=
  match c.victim chimes with
  | none => c.queueOrDrop chimes n
  | some (v, x) =>
    if prioOf chimes n ≤ prioOf chimes x.chime then c.queueOrDrop chimes n
    else if (chimeDesc chimes x.chime).retain then
      if c.suspended.length < Config.suspendDepth then
        ChimeEngine.startOn { c with suspended := x.saved :: c.suspended } chimes v n
      else c.queueOrDrop chimes n
    else c.startOn chimes v n

/-- A chime request is settled against the engine as it stands (R156). -/
def ChimeEngine.settle (c : ChimeEngine) (chimes : Table) (n : Nat) : ChimeEngine :=
  if Config.chimeCount ≤ n || chimeEmpty chimes n then c
  else match c.voiceOf n with
    | some v => if c.level ≤ prioOf chimes n then c.startOn chimes v n else c
    | none =>
      if c.waits n then c
      else if prioOf chimes n < c.level then c.queueOrDrop chimes n
      else match c.lowestFree with
        | some v => c.startOn chimes v n
        | none => c.preempt chimes n

/-- A chime request: ends that the last tick brought come first (log 8), then the settlement (R156). -/
def ChimeEngine.request (c : ChimeEngine) (chimes : Table) (n : Nat) : ChimeEngine :=
  (c.settleEnds chimes).settle chimes n

/-! The admission level (R160) -/

/-- The earliest-started SOUNDING voice whose priority lies below a level. -/
def ChimeEngine.earliestBelow (c : ChimeEngine) (chimes : Table) (l : Nat) : Option (VoiceId × Voice) :=
  let pick (best : Option (VoiceId × Voice)) (v : VoiceId) : Option (VoiceId × Voice) :=
    match c.voices.get v with
    | none => best
    | some x =>
      if x.releasing || decide (l ≤ prioOf chimes x.chime) then best
      else match best with
        | none => some (v, x)
        | some (_, y) => if x.order < y.order then some (v, x) else best
  pick (pick (pick none .v0) .v1) .v2

/-- A voice below the raised level is suspended and becomes FREE, or goes to RELEASING. -/
def ChimeEngine.holdBack (c : ChimeEngine) (chimes : Table) (v : VoiceId) (x : Voice) : ChimeEngine :=
  if (chimeDesc chimes x.chime).retain && decide (c.suspended.length < Config.suspendDepth) then
    { c with suspended := x.saved :: c.suspended, voices := c.voices.set v none }
  else { c with voices := c.voices.set v (some { x with releasing := true }) }

/-- One step of a raise: the earliest-started voice below the level is held back. -/
def ChimeEngine.holdBackNext (c : ChimeEngine) (chimes : Table) (l : Nat) : ChimeEngine :=
  match c.earliestBelow chimes l with
  | none => c
  | some (v, x) => c.holdBack chimes v x

/-- A voice takes a candidate if it is FREE now and `was` says it should look. -/
def ChimeEngine.refill (c : ChimeEngine) (chimes : Table) (look : VoiceId → Bool) (v : VoiceId) : ChimeEngine :=
  if look v && c.isFree v then c.takeCandidate chimes v else c

def ChimeEngine.refillAll (c : ChimeEngine) (chimes : Table) (look : VoiceId → Bool) : ChimeEngine :=
  ((c.refill chimes look .v0).refill chimes look .v1).refill chimes look .v2

/-- The admission level is set (R160): raising holds back the lower voices in start order, and the voices so freed take
candidates; lowering lets every FREE voice take one. -/
def ChimeEngine.setLevel (c : ChimeEngine) (chimes : Table) (l : Nat) : ChimeEngine :=
  if c.level < l then
    let was := c
    let held := ((({ c with level := l }).holdBackNext chimes l).holdBackNext chimes l).holdBackNext chimes l
    held.refillAll chimes fun v => !was.isFree v
  else if l < c.level then
    ({ c with level := l }).refillAll chimes fun _ => true
  else c

def ChimeEngine.moveLevel (c : ChimeEngine) (chimes : Table) (l : Nat) : ChimeEngine :=
  (c.settleEnds chimes).setLevel chimes l

/-! STOP_CHIME (R161) -/

/-- A voice sounding the chime goes to RELEASING. -/
def stopVoice (n : Nat) (x : Option Voice) : Option Voice :=
  x.map fun v => if v.chime = n then { v with releasing := true } else v

def ChimeEngine.stop (c : ChimeEngine) (n : Nat) : ChimeEngine :=
  { c with
    queue := c.queue.filter fun m => decide (m ≠ n)
    suspended := c.suspended.filter fun p => decide (p.chime ≠ n)
    voices := c.voices.map (stopVoice n) }

/-- STOP_CHIME on the engine: ends that the last tick brought come first (log 8). -/
def ChimeEngine.stopNamed (c : ChimeEngine) (chimes : Table) (n : Nat) : ChimeEngine := (c.settleEnds chimes).stop n

/-! Playback at a sample tick (R154, R155) -/

/-- The WAVES address of the voice's next sample. -/
def Voice.address (x : Voice) (chimes : Table) : Nat :=
  let d := chimeDesc chimes x.chime
  match x.phase with
  | .head => (d.start + x.offset) % 65536
  | .loop => (d.start + d.head + x.offset) % 65536

/-- The position after a sample, and whether the chime has reached its natural end (R154). -/
def Voice.advance (x : Voice) (d : ChimeDesc) : Voice :=
  match x.phase with
  | .head =>
    if x.offset + 1 < d.head then { x with offset := x.offset + 1 }
    else if 0 < d.loop then { x with phase := .loop, offset := 0 }
    else { x with offset := x.offset + 1, due := some .natural }
  | .loop =>
    if x.offset + 1 < d.loop then { x with offset := x.offset + 1 }
    else match x.loops with
      | none => { x with offset := 0 }
      | some k => if k ≤ 1 then { x with offset := 0, loops := some 0, due := some .natural }
        else { x with offset := 0, loops := some (k - 1) }

/-- A RELEASING voice's level falls by the voice release step; at 0 its release ends (R155). -/
def Voice.fade (x : Voice) (fadeStep : Nat) : Voice :=
  if !x.releasing then x
  else
    let y := { x with level := x.level - fadeStep }
    if y.level = 0 && y.due.isNone then { y with due := some .release } else y

/-- A voice after it has given its sample at a tick. -/
def Voice.tick (x : Voice) (chimes : Table) (fadeStep : Nat) : Voice :=
  (x.advance (chimeDesc chimes x.chime)).fade fadeStep

/-! What other blocks ask of the engine -/

/-- A block requests a chime (R156). -/
def State.requestChime (s : State) (n : Nat) : State :=
  { s with chimes := s.chimes.request s.tables.chimes n }

/-- The Rear View Output sets the admission level (R101, R160). -/
def State.setAdmission (s : State) (l : Nat) : State :=
  { s with chimes := s.chimes.moveLevel s.tables.chimes l }

/-- The ends that the last tick brought come about (R159, log 8). -/
def State.settleEnds (s : State) : State := { s with chimes := s.chimes.settleEnds s.tables.chimes }

/-- Whether the engine holds a chime in any form, so that its CHIMES entry is IN_USE (R21, R152). -/
def ChimeEngine.holds (c : ChimeEngine) (n : Nat) : Bool := (c.voiceOf n).isSome || c.waits n

/-- Whether a WAVES index lies in the span of a chime (R21). -/
def inSpan (chimes : Table) (n i : Nat) : Bool :=
  let d := chimeDesc chimes n
  decide ((i + 65536 - d.start) % 65536 < d.head + d.loop)

/-- Whether a WAVES word is IN_USE: a chime on a voice or suspended has a span that covers it (R21). -/
def ChimeEngine.waveInUse (c : ChimeEngine) (chimes : Table) (i : Nat) : Bool :=
  ([c.voices.v0, c.voices.v1, c.voices.v2].any fun x => match x with
    | some v => inSpan chimes v.chime i
    | none => false) || c.suspended.any fun p => inSpan chimes p.chime i

/-! The two commands -/

/-- VOICE_NATURAL_END (R154, R159): the lowest-numbered voice that the last tick brought to an end, if that end is a
natural one, becomes FREE and takes a candidate. -/
def execVoiceNaturalEnd (s : State) : Result :=
  whenLive s fun s => match s.chimes.firstDue with
    | some (v, .natural) => { s with chimes := s.chimes.endVoice s.tables.chimes v }
    | _ => s

/-- RELEASE_END (R155, R159): likewise where that end is the end of a release. -/
def execReleaseEnd (s : State) : Result :=
  whenLive s fun s => match s.chimes.firstDue with
    | some (v, .release) => { s with chimes := s.chimes.endVoice s.tables.chimes v }
    | _ => s

end Sys2Proof.Machine
end

