-- ==== Sys2Proof/Machine/RearView.lean ====
section
/-! DEFINITION. The Rear View Output and the overlay hold (06_camera_input_and_the_rear_view, R99 to R106): the reverse
state, the actual view, the hold causes, and the commands of the REVERSE and CAL pins and of the linger timer. -/

namespace Sys2Proof.Machine

/-! The actual view (R102, R103) -/

/-- The actual view that the Rear View Output's state gives (R102). -/
def RearView.viewOf (r : RearView) : View :=
  if !r.autocam && !r.bankLoaded then .none
  else match r.reverse with
    | .on => .camera
    | .linger => .camera
    | .off => r.requested

/-- The REVERSE notice's value: reverse state and actual view (Table 2-8). -/
def RearView.noticeValue (r : RearView) : Word := Word.ofBytes r.reverse.code r.actual.code

/-- The actual view follows its inputs: a change empties the upstream picture queue and clears the camera frame flag
(R103) and display A's mirror flag (R74). -/
def State.followView (s : State) : State :=
  if s.rear.viewOf = s.rear.actual then s
  else { s with
    rear := { s.rear with actual := s.rear.viewOf, queue := [], camFlag := none }
    mirror := { s.mirror with frame := none } }

def State.offerReverse (s : State) : State := s.offerNotice .reverse 0 s.rear.noticeValue

/-- The view follows a change that is no change of reverse state: a change of view then offers the REVERSE notice
(R102). -/
def State.refreshView (s : State) : State :=
  if s.rear.viewOf = s.rear.actual then s else s.followView.offerReverse

/-! The reverse state (R100, R101) -/

/-- The combined reverse source that CONTROL word 9 chooses. -/
def State.reverseSource (s : State) : Bool :=
  match s.tables.control.nat 9 with
  | 0 => s.rear.reversePin.level
  | 1 => s.rear.inband
  | _ => s.rear.reversePin.level || s.rear.inband

/-- The reverse state changes: the view follows and one REVERSE notice reports both. -/
def State.changeReverse (s : State) (r : ReverseState) (linger : Option Nat) : State :=
  State.offerReverse (State.followView { s with rear := { s.rear with reverse := r, linger := linger } })

/-- The reverse source is evaluated (R100), with the effects of R101 on the Chime Engine: the level is set before the
reverse chime is requested. -/
def State.evalReverse (s : State) : State :=
  match s.reverseSource, s.rear.reverse with
  | true, .off =>
    ((s.changeReverse .on none).setAdmission (s.tables.control.nat 11)).requestChime (s.tables.control.nat 12)
  | true, .linger => (s.changeReverse .on none).setAdmission (s.tables.control.nat 11)
  | false, .on =>
    if 0 < s.tables.control.nat 10 then
      (s.changeReverse .linger (some (s.tables.control.nat 10))).setAdmission 0
    else (s.changeReverse .off none).setAdmission 0
  | _, _ => s

/-! The overlay hold (R105) -/

/-- Whether the hold has a cause: the HOLD request or a high debounced CAL level. -/
def State.holdCause (s : State) : Bool := s.guide.holdRequest || s.rear.calPin.level

/-- A cause has appeared or gone: FREE and HELD react, the requested states do not. -/
def HoldState.react (h : HoldState) (cause : Bool) : HoldState :=
  match h, cause with
  | .free, true => .holdRequested
  | .held, false => .releaseRequested
  | _, _ => h

/-- What a camera output frame start makes of the hold state. -/
def HoldState.resolve (h : HoldState) (cause : Bool) : HoldState :=
  match h with
  | .holdRequested | .releaseRequested => if cause then .held else .free
  | .free => .free
  | .held => .held

def State.reactHold (s : State) : State :=
  { s with guide := { s.guide with hold := s.guide.hold.react s.holdCause } }

def State.setHoldRequest (s : State) (present : Bool) : State :=
  State.reactHold { s with guide := { s.guide with holdRequest := present } }

/-- Whether a PUT may write table 18 (R21, R106). -/
def State.bankWritable (s : State) : Bool := decide (s.guide.hold = .held) && s.guide.holdRequest

/-! Pin samples (R99) -/

/-- One 1 ms sample of the REVERSE pin; a change of the debounced level evaluates the reverse source (R99, R100). -/
def State.reverseSample (s : State) (x : Bool) : State :=
  let d := s.rear.reversePin.sample x
  let s' := { s with rear := { s.rear with reversePin := d } }
  if d.level = s.rear.reversePin.level then s' else s'.evalReverse

/-- One 1 ms sample of the CAL pin; a change of the debounced level changes a cause of the hold (R99, R105). -/
def State.calSample (s : State) (x : Bool) : State :=
  let d := s.rear.calPin.sample x
  let s' := { s with rear := { s.rear with calPin := d } }
  if d.level = s.rear.calPin.level then s' else s'.reactHold

/-! The commands -/

/-- REVERSE_LEVEL_CHANGE (R99, R100): the pin's samples pass the debouncer one after another. -/
def execReverseLevelChange (samples : List Bool) (s : State) : Result :=
  whenLive s fun s => samples.foldl State.reverseSample s

/-- CAL_LEVEL_CHANGE (R99, R105). -/
def execCalLevelChange (samples : List Bool) (s : State) : Result :=
  whenLive s fun s => samples.foldl State.calSample s

/-- LINGER_EXPIRY (R100): in LINGER the state becomes OFF and the linger timer stops. Leaving ON has already set the
admission level to 0. -/
def execLingerExpiry (s : State) : Result :=
  whenLive s fun s =>
    if s.rear.reverse = .linger ∧ s.rear.linger.isSome then s.changeReverse .off none else s

end Sys2Proof.Machine
end

