-- ==== Sys2Proof/Machine/Steering.lean ====
section
/-! DEFINITION. The Steering Counter (05_the_steering_counter): the input filters, decoding, the limit, the index, setup
writes, the frame capture, and the command FILTER_SAMPLE. -/

namespace Sys2Proof.Machine

/-! Setup (Table 5-1) -/

/-- The setup words as their values. -/
structure SteerSetup where
  enable     : Bool
  invert     : Bool
  filter     : Nat
  limit      : Int
  indexValue : Int
  indexMode  : Nat
deriving DecidableEq, Repr

def steerSetup (t : Table) : SteerSetup where
  enable := decide (t.nat 0 = 1)
  invert := decide (t.nat 1 = 1)
  filter := t.nat 2
  limit := t.nat 3
  indexValue := t.int 4
  indexMode := t.nat 5

/-! Filtering (R79) -/

def FilterRecord.sample (r : FilterRecord) (len : Nat) (raw : Bool) : FilterRecord :=
  if raw = r.level then { r with run := 0 }
  else if len ≤ r.run + 1 then ⟨raw, 0⟩
  else { r with run := r.run + 1 }

/-! Decoding (R80) -/

/-- Table 5-3. -/
inductive Decoded where
  | none | step (d : Direction) | illegal
deriving DecidableEq, Repr

/-- The pair that follows a pair in the forward sequence 00, 01, 11, 10. -/
def forwardPair : Bool × Bool → Bool × Bool
  | (false, false) => (false, true)
  | (false, true) => (true, true)
  | (true, true) => (true, false)
  | (true, false) => (false, false)

def decodePair (prev new : Bool × Bool) : Decoded :=
  if new = prev then .none
  else if new = forwardPair prev then .step .forward
  else if prev = forwardPair new then .step .backward
  else .illegal

/-- A step's amount (R80). -/
def stepAmount (invert : Bool) : Direction → Int
  | .forward => if invert then -1 else 1
  | .backward => if invert then 1 else -1

/-- The nearest count within plus and minus the limit (R82). -/
def clampCount (limit count : Int) : Int := if limit < count then limit else if count < -limit then -limit else count

/-- A step changes the count within the limit; one that points past it sets the LIMIT flag (R82). -/
def Steering.stepCount (st : Steering) (setup : SteerSetup) (d : Direction) : Steering :=
  let c := st.count + stepAmount setup.invert d
  { st with
    count := clampCount setup.limit c
    limitFlag := st.limitFlag || decide (clampCount setup.limit c ≠ c) }

/-- An accepted index edge (R84). -/
def Steering.takeIndex (st : Steering) (setup : SteerSetup) : Steering :=
  { st with
    count := clampCount setup.limit setup.indexValue
    limitFlag := st.limitFlag || decide (clampCount setup.limit setup.indexValue ≠ setup.indexValue)
    state := .referenced }

/-- An illegal transition (R81). -/
def Steering.takeIllegal (st : Steering) : Steering :=
  { st with faults := min (st.faults + 1) Config.counterMax, lastDir := none, state := .fault }

/-- Whether an index edge is accepted (Table 5-4), with the last direction after any step of the same sample. -/
def indexAccepted (mode : Nat) (dir : Option Direction) (prev new : Bool) : Bool :=
  match mode with
  | 0 => (!prev && new && decide (dir = some .forward)) || (prev && !new && decide (dir = some .backward))
  | 1 => !prev && new
  | _ => false

/-- Decoding and index handling of one sample whose filter records are updated (R80 to R84). -/
def Steering.decode (st : Steering) (setup : SteerSetup) : Steering :=
  match decodePair (st.prevA, st.prevB) (st.filtA.level, st.filtB.level) with
  | .illegal => st.takeIllegal
  | .none =>
    if indexAccepted setup.indexMode st.lastDir st.prevIx st.filtIx.level then st.takeIndex setup else st
  | .step d =>
    if indexAccepted setup.indexMode (some d) st.prevIx st.filtIx.level then
      { (st.takeIndex setup) with lastDir := some d }
    else { (st.stepCount setup d) with lastDir := some d }

/-- At the end of a sample the previous levels take the filtered ones (R79). -/
def Steering.remember (st : Steering) : Steering :=
  { st with prevA := st.filtA.level, prevB := st.filtB.level, prevIx := st.filtIx.level }

/-- The first sample after a reset takes the raw levels and decodes nothing (R89). -/
def Steering.firstSample (st : Steering) (a b ix : Bool) : Steering :=
  Steering.remember { st with filtA := ⟨a, 0⟩, filtB := ⟨b, 0⟩, filtIx := ⟨ix, 0⟩, fresh := false }

/-- The filter records after a sample (R79). -/
def Steering.filtered (st : Steering) (setup : SteerSetup) (a b ix : Bool) : Steering :=
  { st with
    filtA := st.filtA.sample setup.filter a
    filtB := st.filtB.sample setup.filter b
    filtIx := st.filtIx.sample setup.filter ix }

/-- One filter sample (R79); in OFF nothing is decoded (R80). -/
def Steering.sample (st : Steering) (setup : SteerSetup) (a b ix : Bool) : Steering :=
  if st.fresh then st.firstSample a b ix
  else
    let f := st.filtered setup a b ix
    if st.state = .off then f.remember else (f.decode setup).remember

/-! Setup writes (R86) -/

/-- The effect of a write of the enable. -/
def Steering.writeEnable (st : Steering) (enable : Bool) : Steering :=
  if enable then
    (if st.state = .off then { st with state := .unreferenced, count := 0, lastDir := none } else st)
  else if st.state = .off then st else { st with state := .off, lastDir := none }

/-- The effect of a limit: a count beyond it is set to the nearer limit, and sets the LIMIT flag. -/
def Steering.writeLimit (st : Steering) (limit : Int) : Steering :=
  { st with
    count := clampCount limit st.count
    limitFlag := st.limitFlag || decide (clampCount limit st.count ≠ st.count) }

/-- The effects of a PUT of setup words once stored: the enable if word 0 was written, then the limit. The other words
act from the next sample. -/
def Steering.applySetup (st : Steering) (enableWritten : Bool) (setup : SteerSetup) : Steering :=
  (if enableWritten then st.writeEnable setup.enable else st).writeLimit setup.limit

/-! The frame capture (R87) -/

def Steering.capture (st : Steering) : Steering := { st with capCount := st.count, capState := st.state }

/-! What the rest of the part sees -/

/-- The Steering Counter takes a new state; a change of its steering state offers a STEER notice (R85). -/
def State.setSteer (s : State) (st : Steering) : State :=
  let s' := { s with steer := st }
  if st.state = s.steer.state then s' else s'.offerNotice .steer 0 st.state.code

/-- FILTER_SAMPLE (R79 to R84). -/
def execFilterSample (a b ix : Bool) (s : State) : Result :=
  whenLive s fun s => s.setSteer (s.steer.sample (steerSetup s.tables.steering) a b ix)

end Sys2Proof.Machine
end

