-- ==== Sys2Proof/Machine/Guide.lean ====
section
/-! DEFINITION. Colours, tiles and blending (R65, R70, R71) and the guide-line arithmetic (07_guide_lines): field tests,
stages 1 to 3, spans, covers and the drawing of a row. -/

namespace Sys2Proof.Machine

/-! Palettes, tiles and blending -/

/-- A colour with its opacity, 0 to 4. -/
structure Paint where
  opacity : Nat
  colour  : Rgb
deriving DecidableEq, Repr

/-- Two words laid out as a palette entry (R70): opacity and red, green and blue; an opacity above 4 is used as 4. -/
def paintOf (w0 w1 : Word) : Paint := ⟨min w0.hi.toNat 4, ⟨w0.lo, w1.hi, w1.lo⟩⟩

/-- Entry `e` of palette `p` of PALETTES (R70). -/
def paletteEntry (palettes : Table) (p e : Nat) : Paint :=
  paintOf (palettes.read (8 * p + 2 * e)) (palettes.read (8 * p + 2 * e + 1))

/-- The colour a colour reference names; its opacity is ignored (R65). -/
def refColour (palettes : Table) (ref : Nat) : Rgb := (paletteEntry palettes (ref / 4) (ref % 4)).colour

/-- One channel blended (R71): the quotient rounds toward minus infinity. -/
def blendChannel (b k : Byte) (p : Nat) : Byte :=
  BitVec.ofInt 8 (b.toNat + (((k.toNat : Int) - b.toNat) * p) / 4)

/-- A paint blended over a colour (R71). -/
def Paint.over (k : Paint) (b : Rgb) : Rgb :=
  ⟨blendChannel b.r k.colour.r k.opacity, blendChannel b.g k.colour.g k.opacity, blendChannel b.b k.colour.b k.opacity⟩

/-- Pixel (x, r) of tile `n`, an index 0 to 3 (R70); a tile number of 512 or above is transparent throughout. -/
def tileIndex (tiles : Table) (n r x : Nat) : Nat :=
  if Config.tileCount ≤ n then 0
  else (tiles.nat (32 * n + 2 * r + x / 8) / 4 ^ (7 - x % 8)) % 4

/-- A tile pixel blended over a colour: index 0 is transparent (R70). -/
def tileOver (tiles palettes : Table) (tile palette r x : Nat) (b : Rgb) : Rgb :=
  match tileIndex tiles tile r x with
  | 0 => b
  | e => (paletteEntry palettes palette e).over b

/-! The guide fields (Table 7-1) -/

def shapeAt (t : Table) (base : Nat) : List Int := (List.range 9).map fun k => t.int (base + k)

/-- Guide band bounds, band height and segment height. -/
def bandTop (t : Table) : Nat := t.nat 35
def bandBottom (t : Table) : Nat := t.nat 36
def bandHeight (t : Table) : Nat := bandBottom t - bandTop t
def segmentHeight (t : Table) : Nat := bandHeight t / 8
def keyCount (t : Table) : Nat := t.nat 37
def nearWidth (t : Table) : Nat := t.nat 38
def farWidth (t : Table) : Nat := t.nat 39
def markOffset (t : Table) (i : Nat) : Nat := t.nat (40 + i)
def barThickness (t : Table) : Nat := t.nat 43
def steerKey (t : Table) (j : Nat) : Int := t.int (54 + j)

def positionLegal (x : Int) : Bool := decide (-8192 ≤ x ∧ x ≤ 8191)

/-- Test 14 for key j (Table 7-3). -/
def keyLegal (t : Table) (j : Nat) : Bool :=
  decide (-4095 ≤ steerKey t j ∧ steerKey t j ≤ 4095 ∧ (j = 0 ∨ steerKey t (j - 1) < steerKey t j))

/-- Table 7-3: the tests in their order, each with the word it names. -/
def guideTests (t : Table) (height : Nat) : List (Bool × Nat) :=
  [ (decide (t.nat 32 ≤ 1), 32),
    (decide (t.nat 33 ≤ 1), 33),
    (decide (t.nat 34 ≤ 1), 34),
    (decide (bandTop t < bandBottom t), 35),
    (decide (bandBottom t + 1 ≤ height), 36),
    (decide (bandHeight t % 16 = 0), 36),
    (decide (2 ≤ keyCount t ∧ keyCount t ≤ 17), 37),
    (decide (1 ≤ nearWidth t ∧ nearWidth t ≤ 64), 38),
    (decide (1 ≤ farWidth t ∧ farWidth t ≤ nearWidth t), 39),
    (decide (1 ≤ markOffset t 0), 40),
    (decide (markOffset t 0 < markOffset t 1), 41),
    (decide (markOffset t 1 < markOffset t 2 ∧ markOffset t 2 ≤ bandHeight t), 42),
    (decide (1 ≤ barThickness t ∧ barThickness t ≤ 8), 43) ] ++
  ((List.range (min (keyCount t) 17)).map fun j => (keyLegal t j, 54 + j)) ++
  ((List.range 18).map fun k => (positionLegal (t.int (72 + k)), 72 + k)) ++
  ((List.range (18 * min (keyCount t) 17)).map fun k => (positionLegal (t.int (96 + k)), 96 + k))

/-- The first guide field to fail (R110). -/
def guideFailure (t : Table) (height : Nat) : Option Nat := firstFailing (guideTests t height)

/-! Stage 1 (R112) and stage 2 (R113) -/

/-- The key j with s_j at most c and c below s_(j+1), looking from key j on. -/
def keyBelow (t : Table) (c : Int) : Nat → Nat → Nat
  | j, 0 => j
  | j, n + 1 => if c < steerKey t (j + 1) then j else keyBelow t c (j + 1) n

/-- Stage 1: the key and the weight, 0 to 255; weight none uses the key alone (R112). -/
def keyAndWeight (t : Table) (c : Int) : Nat × Option Int :=
  if c ≤ steerKey t 0 then (0, none)
  else if steerKey t (keyCount t - 1) ≤ c then (keyCount t - 1, none)
  else
    let j := keyBelow t c 0 (keyCount t - 2)
    (j, some (256 * (c - steerKey t j) / (steerKey t (j + 1) - steerKey t j)))

/-- One position blended between two keys (R113). -/
def blendPosition (x y w : Int) : Int := x + ((y - x) * w + 128) / 256

/-- The blend of two shapes. -/
def blendShape (w : Int) : List Int → List Int → List Int
  | x :: xs, y :: ys => blendPosition x y w :: blendShape w xs ys
  | _, _ => []

/-- Stage 2 for one trajectory line; `side` is 0 for the left line and 9 for the right one (R109, R113). -/
def trajShape (t : Table) (c : Int) (side : Nat) : List Int :=
  match keyAndWeight t c with
  | (j, none) => shapeAt t (96 + 18 * j + side)
  | (j, some w) => blendShape w (shapeAt t (96 + 18 * j + side)) (shapeAt t (96 + 18 * (j + 1) + side))

/-- The fixed shape (R113). -/
def fixedShape (t : Table) (side : Nat) : List Int := shapeAt t (72 + side)

/-! Stage 3 (R114, R115) -/

/-- The line position in quarter pixels at offset u, for segment height h (R114). -/
def linePosition (shape : List Int) (h u : Nat) : Int :=
  let k := min (u / h) 7
  let d := shape.getD (k + 1) 0 - shape.getD k 0
  shape.getD k 0 + (d * ((u - k * h : Nat) : Int) + ((h / 2 : Nat) : Int)) / (h : Int)

/-- The width of a line at offset u (R115). -/
def lineWidth (t : Table) (u : Nat) : Nat := nearWidth t - (nearWidth t - farWidth t) * u / bandHeight t

/-- A span of columns: first and last, unclipped (R115). -/
structure Span where
  first : Int
  last  : Int
deriving DecidableEq, Repr

/-- The unclipped span of a line at offset u (R115). -/
def lineSpan (t : Table) (shape : List Int) (u : Nat) : Span :=
  let first := linePosition shape (segmentHeight t) u / 4 - ((lineWidth t u / 2 : Nat) : Int)
  ⟨first, first + lineWidth t u - 1⟩

/-- Whether a column lies in a span; columns of a row are 0 to width − 1, so this is the clipped span. -/
def Span.covers (p : Span) (x : Nat) : Bool := decide (p.first ≤ (x : Int) ∧ (x : Int) ≤ p.last)

/-! Covers (R116, R117) -/

def fixedPaint (t : Table) : Paint := paintOf (t.read 44) (t.read 45)

/-- The zone colour of an offset (R116). -/
def zonePaint (t : Table) (u : Nat) : Paint :=
  if u ≤ markOffset t 0 then paintOf (t.read 46) (t.read 47)
  else if u ≤ markOffset t 1 then paintOf (t.read 48) (t.read 49)
  else paintOf (t.read 50) (t.read 51)

def barPaint (t : Table) : Paint := paintOf (t.read 52) (t.read 53)

/-- Whether a bar lies on the row at offset u (R117). -/
def onBar (t : Table) (u : Nat) : Bool :=
  [0, 1, 2].any fun i => decide (markOffset t i ≤ u ∧ u < markOffset t i + barThickness t)

/-- The frame's left and right shapes a bar is measured from (R117). -/
def GuideRecord.barShapes (r : GuideRecord) : List Int × List Int :=
  if r.drawTraj then (r.left, r.right) else (fixedShape r.fields 0, fixedShape r.fields 9)

/-- Whether a kind's line covers a column at offset u (R116). -/
def linesCover (t : Table) (left right : List Int) (u x : Nat) : Bool :=
  (lineSpan t left u).covers x || (lineSpan t right u).covers x

/-- Whether the bar of the row at offset u covers a column (R117). -/
def GuideRecord.barCovers (r : GuideRecord) (u x : Nat) : Bool :=
  onBar r.fields u &&
    Span.covers ⟨(lineSpan r.fields r.barShapes.1 u).first, (lineSpan r.fields r.barShapes.2 u).last⟩ x

/-- A paint blended over a colour where it covers. -/
def coverWith (on : Bool) (k : Paint) (b : Rgb) : Rgb := if on then k.over b else b

/-- One pixel of a band row, built from the bottom up (R118). -/
def GuideRecord.drawPixel (r : GuideRecord) (u x : Nat) (p : Rgb) : Rgb :=
  let t := r.fields
  coverWith (r.drawBars && r.barCovers u x) (barPaint t)
    (coverWith (r.drawTraj && linesCover t r.left r.right u x) (zonePaint t u)
      (coverWith (r.drawFixed && linesCover t (fixedShape t 0) (fixedShape t 9) u x) (fixedPaint t) p))

/-- The pixels of a band row, from column x on. -/
def GuideRecord.drawPixels (r : GuideRecord) (u : Nat) : Nat → List Rgb → List Rgb
  | _, [] => []
  | x, p :: ps => r.drawPixel u x p :: GuideRecord.drawPixels r u (x + 1) ps

/-- The row the Guide Overlay hands on (R120): only a camera row in the band of a valid record is drawn on. -/
def GuideRecord.drawRow (r : GuideRecord) (row : CameraRow) : CameraRow :=
  if row.kind = .camera ∧ r.valid ∧ bandTop r.fields ≤ row.number ∧ row.number ≤ bandBottom r.fields then
    { row with pixels := r.drawPixels (bandBottom r.fields - row.number) 0 row.pixels }
  else row

end Sys2Proof.Machine
end

