-- ==== Sys2Proof/Machine/Camera.lean ====
section
/-! DEFINITION. The Camera Input (06_camera_input_and_the_rear_view, R90 to R98), the camera output frame start with all
that happens at it (R95), and the commands of the camera path. -/

namespace Sys2Proof.Machine

/-! The camera descriptor (Table 6-1) -/

def linePeriod (d : Table) : Nat := d.nat 0
def framePeriod (d : Table) : Nat := d.nat 1
def startPixel (d : Table) : Nat := d.nat 2
def startLine (d : Table) : Nat := d.nat 3
def activeWidth (d : Table) : Nat := d.nat 4
def activeHeight (d : Table) : Nat := d.nat 5
def syncGuard (d : Table) : Nat := d.nat 6
def freeRunInterval (d : Table) : Nat := d.nat 7
def fillRef (d : Table) : Nat := d.nat 8
def messageCount (d : Table) : Nat := d.nat 9
def messageX (d : Table) : Nat := d.nat 10
def messageY (d : Table) : Nat := d.nat 11
def messagePalette (d : Table) : Nat := d.nat 12

/-- Table 6-2: the tests in their order, each with the word it names. -/
def descriptorTests (d : Table) : List (Bool × Nat) :=
  [ (decide (64 ≤ linePeriod d ∧ linePeriod d ≤ 4095), 0),
    (decide (16 ≤ framePeriod d ∧ framePeriod d ≤ 2047), 1),
    (decide (1 ≤ startPixel d), 2),
    (decide (1 ≤ startLine d), 3),
    (decide (16 ≤ activeWidth d ∧ activeWidth d ≤ 1280 ∧ activeWidth d % 2 = 0), 4),
    (decide (startPixel d + activeWidth d ≤ linePeriod d), 4),
    (decide (16 ≤ activeHeight d ∧ activeHeight d ≤ 800), 5),
    (decide (startLine d + activeHeight d ≤ framePeriod d), 5),
    (decide (syncGuard d ≤ 2047 ∧ syncGuard d < linePeriod d), 6),
    (decide (10000 ≤ freeRunInterval d ∧ freeRunInterval d ≤ 60000), 7),
    (decide (fillRef d ≤ 63), 8),
    (decide (messageCount d ≤ 16), 9),
    (decide (messageX d + 16 * messageCount d ≤ activeWidth d), 10),
    (decide (messageY d + 16 ≤ activeHeight d), 11),
    (decide (messagePalette d ≤ 15), 12) ]

def descriptorFailure (d : Table) : Option Nat := firstFailing (descriptorTests d)

/-- The tests of a COMMIT of the CAMERA group: descriptor, then guide fields against the bank's own height (R91, R110). -/
def cameraBankFailure (bank : Table) : Option Nat :=
  match descriptorFailure bank with
  | some w => some w
  | none => guideFailure bank (activeHeight bank)

/-! The camera output frame start (R95) -/

/-- Step of the Table Store and the Rear View Output: a pending swap is taken, offers its GROUP notice, sets the camera
bank loaded flag, and the actual view follows (R37, R102). -/
def State.swapCameraBank (s : State) : State :=
  let s' := s.setGroup .camera s.tables.camera.frameStart
  if s.tables.camera.swaps then
    State.refreshView { (s'.offerNotice .group GroupId.camera.code GroupState.copying.code) with
      rear := { s'.rear with bankLoaded := true } }
  else s'

/-- The latched descriptor (R91): kept while the hold freezes the bank, and where the bank read would fail its tests. -/
def CameraInput.latch (c : CameraInput) (frozen : Bool) (active : Table) : CameraInput :=
  if frozen || (descriptorFailure active).isSome then c else { c with latched := active.slice 0 29 }

/-- The guide fields a frame's record holds (R111, R106): those of the previous record while frozen. -/
def GuideOverlay.fieldsFor (g : GuideOverlay) (frozen : Bool) (active : Table) : Table :=
  if frozen then match g.records.getLast? with
    | some r => r.fields
    | none => active.slice 32 402
  else active.slice 32 402

/-- The guide record of the frame that begins (R111, R119). -/
def guideRecord (frame : Nat) (fields latched : Table) (locked held : Bool) (st : Steering) : GuideRecord :=
  let valid := (guideFailure fields (activeHeight latched)).isNone
  let draw := locked && !held && valid
  { frame := frame
    fields := fields
    width := activeWidth latched
    height := activeHeight latched
    valid := valid
    drawFixed := draw && decide (fields.nat 32 = 1)
    drawTraj := draw && decide (fields.nat 33 = 1) && decide (st.capState = .referenced)
    drawBars := draw && decide (fields.nat 34 = 1)
    left := if valid then trajShape fields st.capCount 0 else []
    right := if valid then trajShape fields st.capCount 9 else [] }

/-- Records kept at a frame start: those of frames with rows still in the buffer (R111). -/
def keptRecords (records : List GuideRecord) (buffer : List CameraRow) : List GuideRecord :=
  records.filter fun r => buffer.any fun row => decide (row.frame = r.frame)

/-- The Rear View Output's decision at a camera output frame start (R103). -/
def State.cameraMark (s : State) : State :=
  if s.rear.actual = .camera then
    State.offerPicture { s with rear := { s.rear with
        camFlag := some ⟨s.camera.frameNo, s.rear.camTag⟩, camTag := s.rear.camTag + 1 } }
      (.mark .camera s.rear.camTag (activeWidth s.camera.latched) (activeHeight s.camera.latched))
  else { s with rear := { s.rear with camFlag := none } }

/-- The frame itself begins: capture, hold, descriptor, record, and the frame in progress (R87, R105, R91, R111). -/
def State.beginCameraFrame (s : State) (swapped : Bool) : State :=
  let steer := s.steer.capture
  let hold := s.guide.hold.resolve s.holdCause
  let frozen := decide (hold = .held) && !swapped
  let cam := s.camera.latch frozen s.tables.camera.active
  let locked := decide (s.camera.state = .locked)
  let no := s.camera.frameNo + 1
  let record := guideRecord no (s.guide.fieldsFor frozen s.tables.camera.active) cam.latched locked
    (decide (hold = .held)) steer
  { s with
    steer := steer
    camera := { cam with frameNo := no, frame := some ⟨if locked then .camera else .generated, 0⟩ }
    guide := { s.guide with hold := hold, records := keptRecords s.guide.records s.camera.buffer ++ [record] } }

/-- A camera output frame start (R95), in the state the camera state change has left. -/
def State.cameraFrameStart (s : State) : State :=
  (s.swapCameraBank.beginCameraFrame s.tables.camera.swaps).cameraMark

/-! Following the camera (R92 to R94) -/

/-- The sync watch's period: 1.5 times the free-run interval, rounded down (R94). -/
def watchPeriod (d : Table) : Nat := freeRunInterval d * 3 / 2

/-- Whether a CAM_HS edge is an accepted line sync (R92). -/
def CameraInput.accepts (c : CameraInput) (clocks : Nat) : Bool :=
  !c.synced || decide (syncGuard c.latched < clocks)

/-- A frame is good if its line count lies within 4 of the nominal frame period (R92). -/
def goodFrame (d : Table) (lines : Nat) : Bool := decide (framePeriod d ≤ lines + 4 ∧ lines ≤ framePeriod d + 4)

/-- A frame sync begins line 0 and a measured frame; a line sync accepted on the same clock is counted in it (R92). -/
def CameraInput.beginMeasured (c : CameraInput) (lineToo : Bool) : CameraInput :=
  { c with measured := some (if lineToo then 1 else 0), line := 0, synced := c.synced || lineToo }

/-- The camera state changes and offers its CAMERA notice (R93). -/
def State.setCameraState (s : State) (st : CameraState) : State :=
  State.offerNotice { s with camera := { s.camera with state := st } } .camera 0 st.code

/-- The sync watch restarts with the latched descriptor's interval (R94). -/
def State.startWatch (s : State) : State :=
  { s with camera := { s.camera with watch := some (watchPeriod s.camera.latched) } }

/-- In LOCKED a frame sync clears the line-seen flag, which a line sync on the same clock sets again (R94, log 14). -/
def State.markLineSeen (s : State) (lineToo : Bool) : State :=
  { s with camera := { s.camera with lineSeen := lineToo } }

/-- A frame sync in NO_SIGNAL (R93, R94). -/
def State.syncNoSignal (s : State) : State :=
  (State.setCameraState { s with camera := { s.camera with good := 0 } } .acquiring).startWatch

/-- A frame sync in ACQUIRING that ended a frame as `good` says; none where it ended none (R93 to R95). -/
def State.syncAcquiring (s : State) (good : Option Bool) (lineToo : Bool) : State :=
  match good with
  | none => s.startWatch
  | some false => State.startWatch { s with camera := { s.camera with good := 0 } }
  | some true =>
    let s' := { s with camera := { s.camera with good := s.camera.good + 1 } }
    if 2 ≤ s.camera.good then
      ((State.setCameraState { s' with camera := { s'.camera with bad := 0, freeRun := none } } .locked).markLineSeen
        lineToo).cameraFrameStart.startWatch
    else s'.startWatch

/-- A frame sync in LOCKED (R93 to R95): a second bad frame loses lock and is no camera output frame start. -/
def State.syncLocked (s : State) (good : Option Bool) (lineToo : Bool) : State :=
  let s := s.markLineSeen lineToo
  match good with
  | some false =>
    let s' := { s with camera := { s.camera with bad := s.camera.bad + 1 } }
    if 1 ≤ s.camera.bad then
      (State.setCameraState { s' with camera := { s'.camera with
          good := 0, frame := none, freeRun := some (freeRunInterval s.camera.latched) } } .acquiring).startWatch
    else s'.cameraFrameStart.startWatch
  | some true => (State.cameraFrameStart { s with camera := { s.camera with bad := 0 } }).startWatch
  | none => s.cameraFrameStart.startWatch

/-- A frame sync: it ends and begins measured frames, then acts by the camera state. -/
def State.frameSync (s : State) (lineToo : Bool) : State :=
  let good := s.camera.measured.map (goodFrame s.camera.latched)
  let s' := { s with camera := s.camera.beginMeasured lineToo }
  match s.camera.state with
  | .noSignal => s'.syncNoSignal
  | .acquiring => s'.syncAcquiring good lineToo
  | .locked => s'.syncLocked good lineToo

/-- An accepted line sync (R92, R94). -/
def CameraInput.lineSync (c : CameraInput) : CameraInput :=
  { c with
    synced := true
    line := c.line + 1
    measured := c.measured.map (· + 1)
    lineSeen := c.lineSeen || decide (c.state = .locked)
    watch := if c.state = .acquiring then some (watchPeriod c.latched) else c.watch }

/-- At a loss of lock the rows not yet completed become fill rows (R96). -/
def CameraInput.fillFrame (c : CameraInput) : Option CameraFrame :=
  match c.frame with
  | some ⟨.camera, n⟩ => some ⟨.fill, n⟩
  | f => f

/-- The sync watch expires in LOCKED (R94, R95, R96). -/
def State.watchLocked (s : State) : State :=
  let c := { s.camera with
    measured := none, watch := none, frame := s.camera.fillFrame, freeRun := some (freeRunInterval s.camera.latched) }
  if s.camera.lineSeen then
    (State.setCameraState { s with camera := { c with good := 0 } } .acquiring).startWatch
  else State.setCameraState { s with camera := c } .noSignal

/-- The sync watch expires in ACQUIRING (R94). -/
def State.watchAcquiring (s : State) : State :=
  State.setCameraState { s with camera := { s.camera with measured := none, watch := none } } .noSignal

/-! Rows (R96 to R98) -/

/-- A completed row is handed to the camera line buffer (R98). -/
def State.bufferRow (s : State) (row : CameraRow) : State :=
  if s.camera.buffer.length < Config.bufferDepth then
    { s with camera := { s.camera with buffer := s.camera.buffer ++ [row] } }
  else s.bump cntRowDrops 1

/-- The fill colour of the latched descriptor. -/
def State.cameraFill (s : State) : Rgb := refColour s.tables.palettes (fillRef s.camera.latched)

/-- A row of `width` columns from the pixels taken for them, the missing columns filled (R96). -/
def padRow (width : Nat) (fill : Rgb) (pixels : List Rgb) : List Rgb :=
  pixels.take width ++ List.replicate (width - pixels.length) fill

/-- A camera row from the pixels of its line: those at pixel counts from the active start pixel on are its columns, the
columns past the end of the line are filled (R96). -/
def cameraColumns (d : Table) (fill : Rgb) (line : List Rgb) : List Rgb :=
  padRow (activeWidth d) fill (line.drop (startPixel d))

/-- Pixel x of generated row y: the fill colour with the no-camera message over it (R97). -/
def messagePixel (d tiles palettes : Table) (fill : Rgb) (y x : Nat) : Rgb :=
  if messageY d ≤ y ∧ y < messageY d + 16 ∧ messageX d ≤ x ∧ x < messageX d + 16 * messageCount d then
    tileOver tiles palettes (d.nat (13 + (x - messageX d) / 16)) (messagePalette d) (y - messageY d)
      ((x - messageX d) % 16) fill
  else fill

/-- A generated row (R97). -/
def State.messageRow (s : State) (y : Nat) : List Rgb :=
  (List.range (activeWidth s.camera.latched)).map
    (messagePixel s.camera.latched s.tables.tiles s.tables.palettes s.cameraFill y)

/-- Row `y` of the frame in progress is completed with these pixels and handed on. -/
def State.completeRow (s : State) (kind : RowKind) (y : Nat) (pixels : List Rgb) : State :=
  State.bufferRow { s with camera := { s.camera with frame := some ⟨kind, y + 1⟩ } }
    ⟨s.camera.frameNo, y, kind, pixels⟩

/-- The row number of the present line, if the frame's rows are camera rows and this one is still to come (R96). -/
def CameraInput.rowDue (c : CameraInput) : Option Nat :=
  match c.frame with
  | some ⟨.camera, next⟩ =>
    if startLine c.latched ≤ c.line ∧ c.line - startLine c.latched < activeHeight c.latched ∧
        next ≤ c.line - startLine c.latched then
      some (c.line - startLine c.latched)
    else none
  | _ => none

/-- The next row of a frame whose rows are of a kind that is timed, if one is left (R96, R97). -/
def CameraInput.timedRow (c : CameraInput) (kind : RowKind) : Option Nat :=
  match c.frame with
  | some ⟨k, next⟩ => if k = kind ∧ next < activeHeight c.latched then some next else none
  | none => none

/-- The row as the Guide Overlay hands it on, by the record of its own frame (R120). -/
def GuideOverlay.draw (g : GuideOverlay) (row : CameraRow) : CameraRow :=
  match g.records.find? fun r => decide (r.frame = row.frame) with
  | some r => r.drawRow row
  | none => row

/-- A row handed on goes upstream if it belongs to the flagged frame, and is discarded otherwise (R103). -/
def State.sendRow (s : State) (row : CameraRow) : State :=
  match s.rear.camFlag with
  | some f => if f.frame = row.frame then s.offerPicture (.line .camera f.tag row.number row.pixels) else s
  | none => s

/-! The commands -/

/-- FRAME_SYNC (R92 to R95). R92 does not say which descriptor's sync guard judges a line sync on the same clock where the
frame sync is a camera output frame start: here it is the one latched before that frame start, DESIGN CHOICE (log 31),
unsafe. -/
def execFrameSync (hs : Option Nat) (s : State) : Result :=
  whenLive s fun s => s.frameSync (match hs with
    | some clocks => s.camera.accepts clocks
    | none => false)

/-- LINE_SYNC (R92): an edge within the sync guard is ignored. -/
def execLineSync (clocks : Nat) (s : State) : Result :=
  whenLive s fun s => if s.camera.accepts clocks then { s with camera := s.camera.lineSync } else s

/-- SYNC_WATCH_EXPIRY (R94). -/
def execSyncWatchExpiry (s : State) : Result :=
  whenLive s fun s =>
    if s.camera.watch.isNone then s
    else match s.camera.state with
      | .locked => s.watchLocked
      | .acquiring => s.watchAcquiring
      | .noSignal => s

/-- FREE_RUN_EXPIRY (R95): a camera output frame start, and the timer restarts with the interval of the descriptor
latched at it. -/
def execFreeRunExpiry (s : State) : Result :=
  whenLive s fun s =>
    if s.camera.freeRun.isNone then s
    else
      let s' := s.cameraFrameStart
      { s' with camera := { s'.camera with freeRun := some (freeRunInterval s'.camera.latched) } }

/-- CAMERA_ROW (R96). -/
def execCameraRow (pixels : List Rgb) (s : State) : Result :=
  whenLive s fun s => match s.camera.rowDue with
    | some y => s.completeRow .camera y (cameraColumns s.camera.latched s.cameraFill pixels)
    | none => s

/-- FILL_ROW (R96). -/
def execFillRow (s : State) : Result :=
  whenLive s fun s => match s.camera.timedRow .fill with
    | some y => s.completeRow .fill y (padRow (activeWidth s.camera.latched) s.cameraFill [])
    | none => s

/-- GENERATED_ROW (R97). -/
def execGeneratedRow (s : State) : Result :=
  whenLive s fun s => match s.camera.timedRow .generated with
    | some y => s.completeRow .generated y (s.messageRow y)
    | none => s

/-- ROW_DRAWN (R98, R103, R120). -/
def execRowDrawn (s : State) : Result :=
  whenLive s fun s => match s.camera.buffer with
    | [] => s
    | row :: rest => State.sendRow { s with camera := { s.camera with buffer := rest } } (s.guide.draw row)

end Sys2Proof.Machine
end

