-- ==== Sys2Proof/Machine/Menus.lean ====
section
/-! DEFINITION. The Menu Engines (08_menus_and_keys): page and item records, the page stack and highlight, key effects,
item actions, the volume keys and the banner, the snapshot, and the commands of the key pins and menu timers. -/

namespace Sys2Proof.Machine

/-! Pages and items (R125, R126) -/

/-- A page record with every field treated as Table 8-1 gives. -/
structure PageRecord where
  first     : Nat
  count     : Nat
  normal    : Nat
  highlight : Nat
  disabled  : Nat
  move      : Nat
  select    : Nat
  timeout   : Nat
deriving DecidableEq, Repr

def pageRecord (pages : Table) (p : Nat) : PageRecord where
  first := pages.nat (8 * p) % 256
  count := min (pages.nat (8 * p + 1)) 12
  normal := pages.nat (8 * p + 2) % 16
  highlight := pages.nat (8 * p + 3) % 16
  disabled := pages.nat (8 * p + 4) % 16
  move := pages.nat (8 * p + 5)
  select := pages.nat (8 * p + 6)
  timeout := min (pages.nat (8 * p + 7)) 60

/-- The item number at a position of a page (R125). -/
def PageRecord.item (p : PageRecord) (i : Nat) : Nat := (p.first + i) % 256

/-- Table 8-2. -/
def itemEnabled (items : Table) (n : Nat) : Bool := (items.read (20 * n)).getLsbD 15
def labelLength (items : Table) (n : Nat) : Nat := min (items.nat (20 * n) % 32) 16
def actionKind (items : Table) (n : Nat) : Nat := items.nat (20 * n + 1)
def actionArg (items : Table) (n : Nat) : Word := items.read (20 * n + 2)
def labelTiles (items : Table) (n : Nat) : List Nat :=
  (List.range (labelLength items n)).map fun c => items.nat (20 * n + 4 + c)

/-! Highlights (R128, R130) -/

/-- A stored highlight resolved against the page as it stands. -/
def resolveHighlight (p : PageRecord) (h : Option Nat) : Option Nat :=
  if p.count = 0 then none else h.map fun i => min i (p.count - 1)

def PageRecord.enabledAt (p : PageRecord) (items : Table) (i : Nat) : Bool := itemEnabled items (p.item i)

/-- The first highlight of a pushed page: its lowest enabled position. -/
def firstHighlight (p : PageRecord) (items : Table) : Option Nat :=
  (List.range p.count).find? (p.enabledAt items)

/-- The lowest enabled position above `h`, or on the whole page from none (R130, DOWN). -/
def downFrom (p : PageRecord) (items : Table) (h : Option Nat) : Option Nat :=
  (List.range p.count).find? fun i => p.enabledAt items i && (match h with
    | none => true
    | some j => decide (j < i))

/-- The highest enabled position below `h`, or on the whole page from none (R130, UP). -/
def upFrom (p : PageRecord) (items : Table) (h : Option Nat) : Option Nat :=
  (List.range p.count).reverse.find? fun i => p.enabledAt items i && (match h with
    | none => true
    | some j => decide (i < j))

/-! Chimes of a seat's actions (R125) -/

def pageOr (own fallback : Nat) : Nat := if own = Config.noChime then fallback else own

def State.moveChime (s : State) (p : PageRecord) : Nat := pageOr p.move (s.tables.control.nat 15)
def State.selectChime (s : State) (p : PageRecord) : Nat := pageOr p.select (s.tables.control.nat 16)

/-- The seat denies: the deny chime is requested and nothing else changes. -/
def State.deny (s : State) : State := s.requestChime (s.tables.control.nat 17)

/-! The page stack -/

def State.menuOf (s : State) (seat : Side) : Menu := s.menus.get seat

def State.setStack (s : State) (seat : Side) (stack : List PageEntry) : State :=
  s.setMenu seat { s.menuOf seat with stack := stack }

/-- A page is pushed with its first highlight (R128). -/
def State.pushPage (s : State) (seat : Side) (page : Nat) : State :=
  s.setStack seat
    (⟨page, firstHighlight (pageRecord s.tables.pages page) s.tables.items⟩ :: (s.menuOf seat).stack)

/-- The timeout timer is set from the seat's state as it stands (R132). -/
def State.setTimeout (s : State) (seat : Side) : State :=
  let t := match (s.menuOf seat).stack with
    | [] => none
    | e :: _ =>
      let secs := (pageRecord s.tables.pages e.page).timeout
      if secs = 0 then none else some secs
  s.setMenu seat { s.menuOf seat with timeout := t }

/-! Key effects (R129 to R136) -/

/-- The root page of a seat (CONTROL words 13 and 14). -/
def State.rootPage (s : State) : Side → Nat
  | .a => s.tables.control.nat 13
  | .b => s.tables.control.nat 14

/-- MENU (R129). -/
def State.menuKey (s : State) (seat : Side) : State :=
  match (s.menuOf seat).stack with
  | [] => if Config.pageCount ≤ s.rootPage seat then s.deny else s.pushPage seat (s.rootPage seat)
  | _ :: _ => s.setStack seat []

/-- UP or DOWN (R130): `find` looks for the new highlight from the resolved one. -/
def State.moveKey (s : State) (seat : Side) (find : PageRecord → Table → Option Nat → Option Nat) : State :=
  match (s.menuOf seat).stack with
  | [] => s
  | e :: rest =>
    let p := pageRecord s.tables.pages e.page
    match find p s.tables.items (resolveHighlight p e.highlight) with
    | some i => (s.setStack seat ({ e with highlight := some i } :: rest)).requestChime (s.moveChime p)
    | none => s.deny

/-- BACK, and the BACK action's pop (R131, R133). -/
def State.popPage (s : State) (seat : Side) : State := s.setStack seat (s.menuOf seat).stack.tail

/-- The ROUTE words of a seat: its display's picture source and its zone's programme source (R134). -/
def seatRoutes : Side → Nat × Nat
  | .a => (0, 2)
  | .b => (1, 3)

def State.offerRoute (s : State) (seat : Side) : State := s.offerNotice .route 0 (sideCode seat)

/-- ROUTE action (R134). -/
def State.routeAction (s : State) (seat : Side) (arg : Word) (chime : Nat) : State :=
  if arg.toNat ≤ 3 ∨ arg.toNat = Config.noProgramme then
    let r := (s.tables.route.write (seatRoutes seat).1 arg).write (seatRoutes seat).2 arg
    (State.offerRoute { s with tables := { s.tables with route := r } } seat).requestChime chime
  else s.deny

/-- The ROUTE words after a SWAP action (R134). -/
def swapRoutes (r : Table) : Table :=
  (((r.write 0 (r.read 1)).write 1 (r.read 0)).write 2 (r.read 3)).write 3 (r.read 2)

/-- SWAP action (R134). -/
def State.swapAction (s : State) (seat : Side) (chime : Nat) : State :=
  (State.offerRoute { s with tables := { s.tables with route := swapRoutes s.tables.route } } seat).requestChime chime

/-- NOTIFY action (R135): a refused SELECT notice denies. -/
def State.notifyAction (s : State) (seat : Side) (page item : Nat) (arg : Word) (chime : Nat) : State :=
  let on := noticeEnabled s.tables.control .select
  if 255 < arg.toNat then s.deny
  else if s.notices.acceptsSelect on then
    let detail := Word.ofBytes (sideCode seat).lo (BitVec.ofNat 8 page)
    let value := Word.ofBytes (BitVec.ofNat 8 item) arg.lo
    State.requestChime { s with notices := s.notices.offerSelect on detail value } chime
  else s.deny

/-- An item's action, selected on page `e.page` (R133 to R135). -/
def State.itemAction (s : State) (seat : Side) (e : PageEntry) (item : Nat) : State :=
  let chime := s.selectChime (pageRecord s.tables.pages e.page)
  let arg := actionArg s.tables.items item
  match actionKind s.tables.items item with
  | 1 =>
    if Config.pageCount ≤ arg.toNat ∨ Config.stackDepth ≤ (s.menuOf seat).stack.length then s.deny
    else (s.pushPage seat arg.toNat).requestChime chime
  | 2 => (s.popPage seat).requestChime chime
  | 3 => (s.setStack seat []).requestChime chime
  | 4 => s.routeAction seat arg chime
  | 5 => s.swapAction seat chime
  | 6 => s.notifyAction seat e.page item arg chime
  | 7 => s.requestChime arg.toNat
  | _ => s.deny

/-- SELECT (R131). -/
def State.selectKey (s : State) (seat : Side) : State :=
  match (s.menuOf seat).stack with
  | [] => s
  | e :: _ =>
    let p := pageRecord s.tables.pages e.page
    match resolveHighlight p e.highlight with
    | none => s.deny
    | some i => if p.enabledAt s.tables.items i then s.itemAction seat e (p.item i) else s.deny

/-- The MIXER word of a seat's zone volume step (Table 9-2). -/
def stepWord : Side → Nat
  | .a => 21
  | .b => 22

/-- The banner timer restarts with the banner time of the display's active COMPOSE bank; 0 leaves it stopped (R73,
R136). -/
def State.startBanner (s : State) (seat : Side) : State :=
  let ms := (s.tables.group (composeOf seat)).active.nat 13
  s.setMenu seat { s.menuOf seat with banner := if ms = 0 then none else some ms }

/-- The zone's step takes a new value, with the CONTROL move chime (R136). -/
def State.stepTo (s : State) (seat : Side) (n : Nat) : State :=
  State.requestChime { s with tables := { s.tables with
    mixer := s.tables.mixer.write (stepWord seat) (BitVec.ofNat 16 n) } } (s.tables.control.nat 15)

/-- VOL_UP or VOL_DOWN (R136). -/
def State.volumeKey (s : State) (seat : Side) (up : Bool) : State :=
  let n := s.tables.mixer.nat (stepWord seat)
  let s' :=
    if up then (if n < Config.volumeTop then s.stepTo seat (n + 1) else s.deny)
    else (if 0 < n then s.stepTo seat (n - 1) else s.deny)
  s'.startBanner seat

/-- Table 8-4. -/
def State.keyEffect (s : State) (seat : Side) : Key → State
  | .menu => s.menuKey seat
  | .up => s.moveKey seat upFrom
  | .down => s.moveKey seat downFrom
  | .select => s.selectKey seat
  | .back => s.popPage seat
  | .volUp => s.volumeKey seat true
  | .volDown => s.volumeKey seat false

/-- One press, whole: the key's effect, then the timeout (R124, R132). -/
def State.pressKey (s : State) (seat : Side) (key : Key) : State := (s.keyEffect seat key).setTimeout seat

/-! The snapshot (R138) -/

/-- Tile row i of the cell map. -/
def menuRow (p : PageRecord) (items : Table) (h : Option Nat) (i : Nat) : MenuRow where
  palette := if h = some i then p.highlight else if p.enabledAt items i then p.normal else p.disabled
  tiles := labelTiles items (p.item i)

/-- The snapshot a frame start latches: none for a CLOSED seat. -/
def State.snapshot (s : State) (seat : Side) : Option (List MenuRow) :=
  match (s.menuOf seat).stack with
  | [] => none
  | e :: _ =>
    let p := pageRecord s.tables.pages e.page
    some ((List.range p.count).map (menuRow p s.tables.items (resolveHighlight p e.highlight)))

/-! Key pins (R122, R123) -/

def State.setKey (s : State) (seat : Side) (key : Key) (d : Debouncer) : State :=
  s.setMenu seat { s.menuOf seat with keys := (s.menuOf seat).keys.set key d }

def State.setRepeat (s : State) (seat : Side) (key : Key) (t : Option Nat) : State :=
  s.setMenu seat { s.menuOf seat with repeats := (s.menuOf seat).repeats.set key t }

def State.autoRepeat (s : State) : Bool := decide (s.tables.control.nat 18 = 1)

/-- A debouncer hands a press: a repeating key's timer starts with 500 ms if auto-repeat is enabled at that moment, and
the Menu Engine carries the press out. -/
def State.handPress (s : State) (seat : Side) (key : Key) : State :=
  State.pressKey (if keyRepeats key && s.autoRepeat then s.setRepeat seat key (some Config.repeatFirst) else s) seat key

/-- One 1 ms sample of a key pin, which reads low while the key is pressed. In CAMERA_ONLY the debouncer follows the pin
and hands no press; a release stops the repeat timer. -/
def State.keySample (s : State) (seat : Side) (key : Key) (high : Bool) : State :=
  let d := (s.menuOf seat).keys.get key
  let d' := d.sample (!high)
  let s' := s.setKey seat key d'
  if d'.level = d.level then s'
  else if d'.level then (if s.media then s'.handPress seat key else s')
  else s'.setRepeat seat key none

/-! The commands -/

/-- PRESS (R122, R123): the pin's samples pass the key's debouncer one after another. -/
def execPress (seat : Side) (key : Key) (samples : List Bool) (s : State) : Result :=
  whenLive s fun s => samples.foldl (fun s x => s.keySample seat key x) s

/-- KEY_RELEASE (R122, R123): likewise. -/
def execKeyRelease (seat : Side) (key : Key) (samples : List Bool) (s : State) : Result :=
  whenLive s fun s => samples.foldl (fun s x => s.keySample seat key x) s

/-- REPEAT_TIMER_EXPIRY (R123). -/
def execRepeatTimerExpiry (seat : Side) (key : Key) (s : State) : Result :=
  whenLive s fun s =>
    if ((s.menuOf seat).repeats.get key).isNone then s
    else if ((s.menuOf seat).keys.get key).level && s.media && s.autoRepeat then
      (s.setRepeat seat key (some Config.repeatNext)).pressKey seat key
    else s.setRepeat seat key none

/-- TIMEOUT_EXPIRY (R132). -/
def execTimeoutExpiry (seat : Side) (s : State) : Result :=
  whenLive s fun s =>
    if (s.menuOf seat).timeout.isNone then s
    else s.setMenu seat { s.menuOf seat with stack := [], timeout := none }

/-- BANNER_EXPIRY (R73). -/
def execBannerExpiry (seat : Side) (s : State) : Result :=
  whenLive s fun s => s.setMenu seat { s.menuOf seat with banner := none }

end Sys2Proof.Machine
end

