-- ==== Sys2Proof/Machine/Sound.lean ====
section
/-! DEFINITION. The Sound Rings and the Mixer (09_sound_rings_and_the_mixer): arrivals, claims, frames, the outlets'
ramps, the mixing arithmetic, and the command SAMPLE_TICK. -/

namespace Sys2Proof.Machine

/-! Rings (R140 to R144) -/

def State.setRing (s : State) (p : Prog) (r : Ring) : State := { s with rings := s.rings.set p r }

/-- A SOUND notice reports a change between PRIMING and PLAYING (R144). -/
def State.offerSound (s : State) (p : Prog) (st : SoundState) : State :=
  s.offerNotice .sound (BitVec.ofNat 16 p.val) st.code

/-- The ring after frames have joined as far as its free space allows (R142). -/
def Ring.join (r : Ring) (frames : List Stereo) : Ring :=
  { r with frames := r.frames ++ frames.take (Config.ringDepth - r.frames.length) }

/-- How many frames of an arrival are dropped (R142). -/
def Ring.dropped (r : Ring) (frames : List Stereo) : Nat := frames.length - (Config.ringDepth - r.frames.length)

/-- Whether a PRIMING ring has reached the level that starts play (R142). -/
def Ring.primed (r : Ring) : Bool := decide (r.state = .priming ∧ Config.primeLevel ≤ r.frames.length)

/-- A SOUND parcel reaches a programme's ring (R142). -/
def State.soundArrives (s : State) (p : Prog) (frames : List Stereo) : State :=
  let r := s.rings.get p
  if r.state = .unrouted then s
  else
    let r' := r.join frames
    let lost := r.dropped frames
    let s' := if lost = 0 then s else s.bump (cntSoundOverflow p) lost
    if r'.primed then (s'.setRing p { r' with state := .playing }).offerSound p .playing
    else s'.setRing p r'

/-! Outlets (R146 to R149) -/

/-- The ROUTE word of an outlet (R147). -/
def outletRoute : Outlet → Nat
  | .zoneA => 2
  | .zoneB => 3
  | .cabin => 4

def outletIndex : Outlet → Nat
  | .zoneA => 0
  | .zoneB => 1
  | .cabin => 2

/-- The outlet compares its ROUTE word with its sources (R147). -/
def OutletState.settleSource (o : OutletState) (w : Option Prog) : OutletState :=
  match o.pending with
  | some _ => { o with pending := some w }
  | none => if w = o.current then o else { o with pending := some w }

/-- A value moves toward a target by a step and never passes it. -/
def approach (x target up down : Nat) : Nat :=
  if x < target then min target (x + up) else max target (x - down)

/-- V moves toward 0 while a source is pending, toward the target gain otherwise (R148). -/
def OutletState.moveGain (o : OutletState) (target rampStep : Nat) : OutletState :=
  { o with gain := approach o.gain (if o.pending.isSome then 0 else target) rampStep rampStep }

/-- A pending source is taken at silence (R147). -/
def OutletState.takeSource (o : OutletState) : OutletState :=
  match o.pending with
  | some p => if o.gain = 0 then { o with current := p, pending := none } else o
  | none => o

/-- The target gain of an outlet: the volume table entry of its volume step (R146). -/
def targetGain (mixer : Table) (o : Outlet) : Nat := mixer.nat (mixer.nat (21 + outletIndex o))

/-- Whether a voice that is SOUNDING or RELEASING ducks an outlet (R149). -/
def voiceDucks (chimes : Table) (o : Outlet) (x : Option Voice) : Bool :=
  match x with
  | some v => (chimeDesc chimes v.chime).duck && (chimeDesc chimes v.chime).names o
  | none => false

/-- The duck target (R149). -/
def State.duckTarget (s : State) (o : Outlet) : Nat :=
  let chime := if [s.chimes.voices.v0, s.chimes.voices.v1, s.chimes.voices.v2].any (voiceDucks s.tables.chimes o)
    then s.tables.mixer.nat 27 else Config.unity
  let reverse := if s.rear.reverse = .on then s.tables.mixer.nat (28 + outletIndex o) else Config.unity
  min Config.unity (min chime reverse)

/-- D moves toward its target: it falls by the attack step and rises by the release step (R149). -/
def OutletState.moveDuck (o : OutletState) (target attack release : Nat) : OutletState :=
  { o with duck := approach o.duck target release attack }

/-- Stages 1 and 2 of a tick for one outlet (R150). -/
def State.tickOutlet (s : State) (i : Outlet) (o : OutletState) : OutletState :=
  let m := s.tables.mixer
  (((o.settleSource (routeProg (s.tables.route.read (outletRoute i)))).moveGain (targetGain m i)
    (m.nat 31)).takeSource).moveDuck (s.duckTarget i) (m.nat 32) (m.nat 33)

/-! Claims and frames (R141, R143) -/

def OutletState.holds (o : OutletState) (p : Prog) : Bool :=
  decide (o.current = some p ∨ o.pending = some (some p))

/-- Whether a programme is claimed (R141). -/
def State.claimed (s : State) (p : Prog) : Bool :=
  s.media && (s.outlets.zoneA.holds p || s.outlets.zoneB.holds p || s.outlets.cabin.holds p)

/-- A programme's state follows its claim (R141). -/
def Ring.claim (r : Ring) (claimed : Bool) : Ring :=
  if claimed then (if r.state = .unrouted then ⟨.priming, []⟩ else r) else emptyRing

def State.claimRings (s : State) : State :=
  { s with rings :=
      ⟨s.rings.p0.claim (s.claimed 0), s.rings.p1.claim (s.claimed 1), s.rings.p2.claim (s.claimed 2),
        s.rings.p3.claim (s.claimed 3)⟩ }

/-- The frame a programme gives for a tick: silence unless it is PLAYING and holds one (R143). -/
def Ring.frame (r : Ring) : Stereo := if r.state = .playing then r.frames.headD Stereo.silence else Stereo.silence

/-- A PLAYING programme gives its frame, or underruns (R143). -/
def State.giveFrame (s : State) (p : Prog) : State :=
  let r := s.rings.get p
  if r.state = .playing then
    match r.frames with
    | _ :: rest => s.setRing p { r with frames := rest }
    | [] => ((s.bump (cntUnderrun p) 1).setRing p { r with state := .priming }).offerSound p .priming
  else s

def State.giveFrames (s : State) : State := (((s.giveFrame 0).giveFrame 1).giveFrame 2).giveFrame 3

/-! Mixing (R151) -/

/-- Scaling by a gain of 0 to 32,768, a half rounded up. -/
def scaled (x : Int) : Int := (x + 16384) / 32768

/-- The effective programme gain G. -/
def programmeGain (o : OutletState) : Int := scaled ((o.gain : Int) * o.duck)

/-- A voice's contribution to an outlet of chime gain `gain`. -/
def voiceTerm (chimes waves : Table) (o : Outlet) (gain : Nat) (x : Option Voice) : Int :=
  match x with
  | none => 0
  | some v =>
    if (chimeDesc chimes v.chime).names o then
      scaled (waves.int (v.address chimes) * (v.level : Int)) * (gain : Int)
    else 0

def State.voiceTerms (s : State) (o : Outlet) : Int :=
  let g := s.tables.mixer.nat (24 + outletIndex o)
  let term := voiceTerm s.tables.chimes s.tables.waves o g
  term s.chimes.voices.v0 + term s.chimes.voices.v1 + term s.chimes.voices.v2

/-- Saturation to a signed 16-bit sample. -/
def saturate (x : Int) : Int := if 32767 < x then 32767 else if x < -32768 then -32768 else x

/-- The sum of one channel, before the output division. The 40-bit accumulator never overflows (R151, log 27). -/
def channelSum (o : OutletState) (sample : Word) (voices : Int) : Int := sample.toInt * programmeGain o + voices

/-- How many channels of a frame saturate. -/
def clipCount (l r : Int) : Nat := (if saturate l = l then 0 else 1) + (if saturate r = r then 0 else 1)

/-- The source frame of an outlet at this tick. -/
def sourceFrame (frames : Quad Stereo) (o : OutletState) : Stereo :=
  match o.current with
  | some p => frames.get p
  | none => Stereo.silence

/-- The two results before saturation. -/
def State.outletSums (s : State) (frames : Quad Stereo) (i : Outlet) : Int × Int :=
  let o := s.outlets.get i
  let f := sourceFrame frames o
  let v := s.voiceTerms i
  (scaled (channelSum o f.left v), scaled (channelSum o f.right v))

/-- The output frame of an outlet. -/
def outputFrame (p : Int × Int) : Stereo := ⟨BitVec.ofInt 16 (saturate p.1), BitVec.ofInt 16 (saturate p.2)⟩

/-- Stage 6: each outlet computes its output frame; saturated channels are counted in CLIP (R151). -/
def State.mix (s : State) (frames : Quad Stereo) : State :=
  let a := s.outletSums frames .zoneA
  let b := s.outletSums frames .zoneB
  let c := s.outletSums frames .cabin
  let out := (({ s with outlets :=
      ⟨{ s.outlets.zoneA with out := outputFrame a }, { s.outlets.zoneB with out := outputFrame b },
        { s.outlets.cabin with out := outputFrame c }⟩ }.bump (cntClip .zoneA) (clipCount a.1 a.2)).bump
      (cntClip .zoneB) (clipCount b.1 b.2)).bump (cntClip .cabin) (clipCount c.1 c.2)
  out

/-- Stage 5, after the samples are given: each voice moves on (R154, R155). -/
def State.advanceVoices (s : State) : State :=
  { s with chimes := { s.chimes with
      voices := s.chimes.voices.map fun x => x.map fun v => v.tick s.tables.chimes (s.tables.mixer.nat 34) } }

/-- Stages 1 to 4 of a tick. -/
def State.tickSources (s : State) : State :=
  State.claimRings { s with outlets := s.outlets.map s.tickOutlet }

/-- The frames the programmes give at this tick. -/
def State.tickFrames (s : State) : Quad Stereo :=
  ⟨s.rings.p0.frame, s.rings.p1.frame, s.rings.p2.frame, s.rings.p3.frame⟩

/-- One sample tick in the order of R150; ends that the tick before brought come first (log 8). -/
def State.sampleTick (s : State) : State :=
  let s1 := s.settleEnds.tickSources
  (s1.giveFrames.mix s1.tickFrames).advanceVoices

/-! The sound pins (R150, Table 0-3) -/

/-- What the sound pins carry in a sample period. A sample clock is given by the sample rate it runs at, none while a reset
holds the part; a data pin by the samples it sends, first to last. How a clock pin and the bits of a sample move within the
period the spec does not give, and no field shows it: DESIGN CHOICE (log 33), safe. -/
structure SoundPins where
  bck : Option Nat
  ws  : Option Nat
  za  : List Word
  zb  : List Word
  cab : List Word
deriving DecidableEq, Repr

/-- A stereo frame on a serial data pin: the left sample first (R150). -/
def serialFrame (f : Stereo) : List Word := [f.left, f.right]

/-- The sound pins in the present sample period (R150): each outlet's output frame of the last tick, silence from reset
release to the first tick, and the sample clocks running at the sample rate. -/
def State.soundPins (s : State) : SoundPins :=
  let clock := if s.held.isNone then some Config.sampleRate else none
  ⟨clock, clock, serialFrame s.outlets.zoneA.out, serialFrame s.outlets.zoneB.out, serialFrame s.outlets.cabin.out⟩

/-- SAMPLE_TICK (R150). -/
def execSampleTick (s : State) : Result := whenLive s State.sampleTick

/-- CABIN_TIME_TICK (R39). -/
def execCabinTimeTick (s : State) : Result :=
  whenLive s fun s => { s with notices := { s.notices with time := s.notices.time + 1 } }

end Sys2Proof.Machine
end

