-- ==== Sys2Proof/Machine/Display.lean ====
section
/-! DEFINITION. Picture Ingest, the Line Stores and their readers (03_picture_streams_and_line_stores), the Display Engines
(04_rear_displays_and_composition), and the four commands of a raster. -/

namespace Sys2Proof.Machine

/-! Raster descriptors (R60, R61) -/

/-- The first word of a display's descriptor in RASTER. -/
def rasterBase : Side → Nat
  | .a => 0
  | .b => 16

/-- A field of a display's descriptor (Table 4-1). -/
def rasterField (raster : Table) (d : Side) (k : Nat) : Nat := raster.nat (rasterBase d + k)

def displayWidth (raster : Table) (d : Side) : Nat := rasterField raster d 4
def displayHeight (raster : Table) (d : Side) : Nat := rasterField raster d 8

/-- Table 4-3: the tests in their order, each with the descriptor word it names. -/
def rasterTests (raster : Table) (d : Side) : List (Bool × Nat) :=
  let f := rasterField raster d
  [ (decide (f 0 ≤ 3), 0),
    (decide (64 ≤ f 1 ∧ f 1 ≤ 2047), 1),
    (decide (1 ≤ f 2), 2),
    (decide (f 2 < f 3), 3),
    (decide (16 ≤ f 4 ∧ f 4 ≤ 1280 ∧ f 4 % 2 = 0), 4),
    (decide (f 3 + f 4 ≤ f 1), 4),
    (decide (16 ≤ f 5 ∧ f 5 ≤ 1023), 5),
    (decide (1 ≤ f 6), 6),
    (decide (f 6 < f 7), 7),
    (decide (16 ≤ f 8 ∧ f 8 ≤ 800), 8),
    (decide (f 7 + f 8 ≤ f 5), 8) ]

/-- The RASTER word of the first failing test of a display's descriptor (R61). -/
def rasterFailure (raster : Table) (d : Side) : Option Nat :=
  (firstFailing (rasterTests raster d)).map fun k => rasterBase d + k

/-! Composition banks (R65, R66) -/

/-- Tables 4-4 and 4-5, word by word, a word's own range first; the placement tests only against a valid descriptor,
given by its active width and height. -/
def composeTests (bank : Table) (size : Option (Nat × Nat)) : List (Bool × Nat) :=
  let f := bank.nat
  let fitsX (x : Nat) : Bool := match size with
    | some (w, _) => decide (x ≤ w)
    | none => true
  let fitsY (y : Nat) : Bool := match size with
    | some (_, h) => decide (y ≤ h)
    | none => true
  [ (decide (f 0 ≤ 63), 0),
    (decide (f 1 ≤ 1279), 1),
    (decide (f 2 ≤ 799), 2),
    (decide (1 ≤ f 3 ∧ f 3 ≤ 1280) && fitsX (f 1 + f 3), 3),
    (decide (1 ≤ f 4 ∧ f 4 ≤ 800) && fitsY (f 2 + f 4), 4),
    (decide (f 5 = 1 ∨ f 5 = 2), 5),
    (decide (f 6 ≤ 63), 6),
    (decide (f 7 ≤ 3), 7),
    (decide (f 8 ≤ 1279) && fitsX (f 8 + 256), 8),
    (decide (f 9 ≤ 799) && fitsY (f 9 + 192), 9),
    (decide (f 10 ≤ 1279) && fitsX (f 10 + 320), 10),
    (decide (f 11 ≤ 799) && fitsY (f 11 + 16), 11),
    (decide (f 12 ≤ 15), 12),
    (decide (f 13 ≤ 10000), 13) ]

/-- The first word to fail. -/
def composeFailure (bank : Table) (size : Option (Nat × Nat)) : Option Nat := firstFailing (composeTests bank size)

/-- The active size of a display, if its descriptor is valid (R61, R66). -/
def displaySize (raster : Table) (d : Side) : Option (Nat × Nat) :=
  match rasterFailure raster d with
  | none => some (displayWidth raster d, displayHeight raster d)
  | some _ => none

def windowX (c : Table) : Nat := c.nat 1
def windowY (c : Table) : Nat := c.nat 2
def windowWidth (c : Table) : Nat := c.nat 3
def windowHeight (c : Table) : Nat := c.nat 4
def windowScale (c : Table) : Nat := c.nat 5

/-! Line arrivals (R46, R48) -/

/-- Whether a slot holds a line of a frame. -/
def Slot.isLine (x : Slot) (tag : Tag) (line : Nat) : Bool := decide (x.tag = tag ∧ x.line = line)

/-- The outcome of a line copy (Table 3-1). -/
inductive Arrival where
  | malformed | late | replaced | overflow | appended
deriving DecidableEq, Repr

/-- The first condition of Table 3-1 that holds decides. -/
def Display.arrival (x : Display) (f : Format) (tag : Tag) (line count : Nat) : Arrival :=
  if f.height ≤ line ∨ f.width < count then .malformed
  else if tag = x.reader.openTag ∧
      (x.reader.phase = .after ∨ (x.reader.phase = .inside ∧ line < x.reader.nextLine)) then .late
  else if x.store.any (fun y => y.isLine tag line) then .replaced
  else if Config.storeDepth ≤ x.store.length then .overflow
  else .appended

/-- A duplicate arrival replaces a slot's pixels; the slot keeps its place (R48). -/
def Slot.replaced (y : Slot) (tag : Tag) (line : Nat) (pixels : List Rgb) : Slot :=
  if y.isLine tag line then { y with pixels := pixels } else y

/-- A line copy reaches a display's store. -/
def State.storeLine (s : State) (d : Side) (p : Prog) (tag : Tag) (line : Nat) (pixels : List Rgb) : State :=
  let x := s.disp.get d
  match x.arrival (s.formats.get p) tag line pixels.length with
  | .malformed => s.bump (cntMalformed d) 1
  | .late => s.bump (cntLate d) 1
  | .overflow => s.bump (cntOverflow d) 1
  | .replaced => s.setDisp d { x with store := x.store.map fun y => y.replaced tag line pixels }
  | .appended => s.setDisp d { x with store := x.store ++ [⟨tag, line, pixels, false⟩] }

/-- Whether a display shows a programme's picture: it runs, its latched route names the programme (R44, R46). -/
def State.shows (s : State) (d : Side) (p : Prog) : Bool :=
  s.media && decide ((s.disp.get d).reader.route = some p)

/-- PLAYING or STALLED. -/
def Reader.receives (r : Reader) : Bool := decide (r.picture = .playing ∨ r.picture = .stalled)

/-- The line is offered to a display that meets the conditions of R46. -/
def State.fanLine (s : State) (d : Side) (p : Prog) (tag : Tag) (line : Nat) (pixels : List Rgb) : State :=
  if s.shows d p && (s.disp.get d).reader.receives then s.storeLine d p tag line pixels else s

/-- Picture Ingest receives a PICTURE_LINE (R46). -/
def State.pictureLine (s : State) (p : Prog) (tag : Tag) (line : Nat) (pixels : List Rgb) : State :=
  (s.fanLine .a p tag line pixels).fanLine .b p tag line pixels

/-! Marks (R44, R45, R57) -/

def State.offerPictureNotice (s : State) (d : Side) (v : Picture) : State :=
  s.offerNotice .picture (sideCode d) v.code

/-- A changed format halts a display that is PLAYING or STALLED (R44, R57). -/
def State.haltDisplay (s : State) (d : Side) (p : Prog) : State :=
  let x := s.disp.get d
  if s.shows d p && x.reader.receives then
    (s.setDisp d { x with store := [], reader := { x.reader with picture := .halted } }).offerPictureNotice d .halted
  else s

/-- The tag purge on one display's store (R45). -/
def State.purgeTag (s : State) (d : Side) (p : Prog) (tag : Tag) : State :=
  let x := s.disp.get d
  if s.shows d p && decide (x.reader.openTag ≠ tag) then
    (s.setDisp d { x with store := x.store.filter fun y => decide (y.tag ≠ tag) }).bump (cntUnused d)
      (x.store.countP fun y => decide (y.tag = tag))
  else s

/-- Whether a mark's width and height are in range (R44 step 1). -/
def markInRange (w h : Nat) : Bool := decide (16 ≤ w ∧ w ≤ 1280 ∧ 16 ≤ h ∧ h ≤ 800)

/-- The format part of a mark in range (R44 steps 2 to 4). -/
def State.takeFormat (s : State) (p : Prog) (w h : Nat) : State :=
  let f := s.formats.get p
  let s' := { s with formats := s.formats.set p { f with width := w, height := h } }
  if (f.width = 0 ∧ f.height = 0) ∨ (f.width = w ∧ f.height = h) then s'
  else (s'.haltDisplay .a p).haltDisplay .b p

/-- The tag part of a mark in range (R45). -/
def State.takeTag (s : State) (p : Prog) (tag : Tag) : State :=
  let s' := if (s.formats.get p).lastTag = some tag then s else (s.purgeTag .a p tag).purgeTag .b p tag
  { s' with formats := s'.formats.set p { s'.formats.get p with lastTag := some tag } }

def State.countMalformed (s : State) (d : Side) (p : Prog) : State :=
  if s.shows d p then s.bump (cntMalformed d) 1 else s

/-- Picture Ingest receives a PICTURE_MARK (R44, R45). -/
def State.pictureMark (s : State) (p : Prog) (tag : Tag) (w h : Nat) : State :=
  if markInRange w h then (s.takeFormat p w h).takeTag p tag
  else (s.countMalformed .a p).countMalformed .b p

/-! The reader at a frame start (R50, R56) -/

/-- Step 1: a route change empties the store. -/
def Display.takeRoute (x : Display) (route : Option Prog) : Display :=
  if route = x.reader.route then x
  else { x with
    store := []
    reader := { x.reader with
      route := route, resume := false, picture := if route.isNone then .noSource else .playing } }

/-- Step 2. -/
def Reader.takeResume (r : Reader) : Reader :=
  if r.picture = .halted ∧ r.resume then { r with resume := false, picture := .playing } else r

/-- Step 3. -/
def Reader.recover (r : Reader) (slots : Nat) : Reader :=
  if r.picture = .stalled ∧ Config.recoverSlots ≤ slots then { r with picture := .playing } else r

/-- Step 4, and R56 for a frame that stays STALLED. R49 speaks of the last drawn row of the present frame and R50 clears it
only at the opening; a frame that is not opened keeps the earlier one here, DESIGN CHOICE (log 32), safe: every row of
such a frame is fill (R50, R56). -/
def Reader.openFrame (r : Reader) (oldest : Option Slot) : Reader :=
  match r.picture with
  | .playing => { r with
      openTag := (match oldest with
        | some y => y.tag
        | none => r.openTag + 1)
      phase := .before, nextLine := 0, misses := 0, lastRow := none, opened := true }
  | .stalled => { r with phase := .before, opened := false }
  | .noSource | .halted => { r with opened := false }

/-- The reader's frame start with the route just latched (R50). -/
def Display.readerStart (x : Display) (route : Option Prog) : Display :=
  let y := x.takeRoute route
  { y with reader := ((y.reader.takeResume).recover y.store.length).openFrame y.store.head? }

/-! The display frame start (R64) -/

/-- The ROUTE word of a display's picture source. -/
def displayRoute : Side → Nat
  | .a => 0
  | .b => 1

/-- Steps 1 and 2: the exchange of the COMPOSE group, and the latched composition. -/
def State.latchComposition (s : State) (d : Side) : State :=
  let g := s.tables.group (composeOf d)
  let s1 := s.setGroup (composeOf d) g.frameStart
  let s2 := if g.swaps then s1.offerNotice .group (composeOf d).code GroupState.copying.code else s1
  s2.setDisp d { s2.disp.get d with
    comp := some (g.frameStart.active.slice 0 32), raster := some ⟨0, false, false⟩ }

/-- Step 3: the route, and the reader's frame start; a change of picture state offers its notice (R58). -/
def State.latchRoute (s : State) (d : Side) : State :=
  let x := s.disp.get d
  let y := x.readerStart (routeProg (s.tables.route.read (displayRoute d)))
  let s' := s.setDisp d y
  if y.reader.picture = x.reader.picture then s' else s'.offerPictureNotice d y.reader.picture

/-- Step 5: the banner as latched. -/
def State.bannerLatch (s : State) (d : Side) : Option BannerLatch :=
  match (s.menuOf d).banner with
  | none => none
  | some _ => some ⟨s.tables.mixer.nat (stepWord d), s.tables.control.nat 19, s.tables.control.nat 20⟩

/-- Steps 4 and 5. -/
def State.latchMenu (s : State) (d : Side) : State :=
  s.setDisp d { s.disp.get d with menu := s.snapshot d, banner := s.bannerLatch d }

/-- Step 6, for display A: the mirror flag, and the mark of a mirrored frame (R74). -/
def State.latchMirror (s : State) (d : Side) : State :=
  match d with
  | .b => s
  | .a =>
    if s.rear.actual = .mirror then
      State.offerPicture { s with mirror := ⟨some s.mirror.tag, s.mirror.tag + 1⟩ }
        (.mark .mirror s.mirror.tag (displayWidth s.tables.raster .a) (displayHeight s.tables.raster .a))
    else { s with mirror := { s.mirror with frame := none } }

def State.displayFrameStart (s : State) (d : Side) : State :=
  (((s.latchComposition d).latchRoute d).latchMenu d).latchMirror d

/-! Window rows (R52 to R54) -/

/-- What the reader hands the Display Engine for a window row (R68): a row of pixels, or fill. -/
inductive RowSource where
  | fill
  | pixels (row : List Rgb)
deriving DecidableEq, Repr

/-- A row is drawn from slot `y` of line `l`; `next` is the next needed line after it (R53). -/
def Display.drawLine (x : Display) (y : Slot) (l next : Nat) : Display :=
  let kept := x.store.filter fun z => !(decide (z.tag = x.reader.openTag ∧ z.line < l))
  { x with
    store := if l < next then kept.filter fun z => !z.isLine x.reader.openTag l
      else kept.map fun z => if z.isLine x.reader.openTag l then { z with drawn := true } else z
    reader := { x.reader with lastRow := some y.pixels, misses := 0, nextLine := next } }

/-- How many slots a drawn line skips (R53). -/
def Display.skipped (x : Display) (l : Nat) : Nat :=
  x.store.countP fun z => decide (z.tag = x.reader.openTag ∧ z.line < l)

/-- A miss (R54): the eighth in a row stalls the display and leaves the next needed line. -/
def Reader.miss (r : Reader) (next : Nat) : Reader :=
  if Config.stallMisses ≤ r.misses + 1 then { r with misses := r.misses + 1, picture := .stalled }
  else { r with misses := r.misses + 1, nextLine := next }

/-- The height of the programme a reader's route names, as it stands (R43). -/
def State.sourceHeight (s : State) (r : Reader) : Nat :=
  match r.route with
  | some p => (s.formats.get p).height
  | none => 0

/-- Window row `r` of a display whose window scale is `scale` (R52 to R54): the state after it and its source row. -/
def State.windowRow (s : State) (d : Side) (scale r : Nat) : State × RowSource :=
  let x := s.disp.get d
  let l := r / scale
  let next := (r + 1) / scale
  if x.reader.opened = false ∨ x.reader.picture ≠ .playing then (s, .fill)
  else if s.sourceHeight x.reader ≤ l then
    (s.setDisp d { x with reader := { x.reader with nextLine := next } }, .fill)
  else match x.store.find? fun y => y.isLine x.reader.openTag l with
    | some y => ((s.setDisp d (x.drawLine y l next)).bump (cntSkipped d) (x.skipped l), .pixels y.pixels)
    | none =>
      let m := x.reader.miss next
      let s' := s.setDisp d { x with reader := m }
      if m.picture = .stalled then (s'.offerPictureNotice d .stalled, .fill)
      else (s', match x.reader.lastRow with
        | some row => .pixels row
        | none => .fill)

/-! Composing a pixel (R67 to R73) -/

/-- One shaded channel (R69). -/
def shadeChannel (v : Byte) (level : Nat) : Byte := BitVec.ofNat 8 (v.toNat - v.toNat * level / 4)

def shade (c : Rgb) (level : Nat) : Rgb :=
  ⟨shadeChannel c.r level, shadeChannel c.g level, shadeChannel c.b level⟩

/-- The film pixel of window column `c` (R68). -/
def filmPixel (src : RowSource) (fill : Rgb) (scale c : Nat) : Rgb :=
  match src with
  | .fill => fill
  | .pixels row => row.getD (c / scale) fill

/-- The base colour (R67 step 1); `row` is the window row's source, none outside the window's rows. -/
def basePixel (comp palettes : Table) (isOpen : Bool) (row : Option RowSource) (x : Nat) : Rgb :=
  match row with
  | none => refColour palettes (comp.nat 0)
  | some src =>
    if windowX comp ≤ x ∧ x < windowX comp + windowWidth comp then
      let film := filmPixel src (refColour palettes (comp.nat 6)) (windowScale comp) (x - windowX comp)
      if isOpen then shade film (comp.nat 7) else film
    else refColour palettes (comp.nat 0)

/-- The menu panel over a colour (R67 step 2, R72). -/
def panelOver (comp tiles palettes : Table) (menu : Option (List MenuRow)) (x y : Nat) (b : Rgb) : Rgb :=
  match menu with
  | none => b
  | some rows =>
    let px := comp.nat 8
    let py := comp.nat 9
    if px ≤ x ∧ x < px + 256 ∧ py ≤ y ∧ y < py + 192 then
      match rows[(y - py) / 16]? with
      | none => b
      | some r =>
        match r.tiles[(x - px) / 16]? with
        | none => b
        | some t => tileOver tiles palettes t r.palette ((y - py) % 16) ((x - px) % 16) b
    else b

/-- The banner over a colour (R67 step 3, R73). -/
def bannerOver (comp tiles palettes : Table) (banner : Option BannerLatch) (x y : Nat) (b : Rgb) : Rgb :=
  match banner with
  | none => b
  | some n =>
    let bx := comp.nat 10
    let by_ := comp.nat 11
    if bx ≤ x ∧ x < bx + 320 ∧ by_ ≤ y ∧ y < by_ + 16 then
      tileOver tiles palettes (if (x - bx) / 16 < n.step then n.filled else n.empty) (comp.nat 12) (y - by_)
        ((x - bx) % 16) b
    else b

/-- The composed colour of column `x` of active row `y` (R67). -/
def composePixel (t : TableStore) (v : Display) (comp : Table) (row : Option RowSource) (y x : Nat) : Rgb :=
  bannerOver comp t.tiles t.palettes v.banner x y
    (panelOver comp t.tiles t.palettes v.menu x y (basePixel comp t.palettes v.menu.isSome row x))

/-- The composed colours of an active row. -/
def composeRow (t : TableStore) (v : Display) (comp : Table) (row : Option RowSource) (width y : Nat) : List Rgb :=
  (List.range width).map (composePixel t v comp row y)

/-! The raster's events (R63) -/

/-- A frame start is due at the beginning of the raster, and when the frame's rows and its window bottom have passed. -/
def State.frameDue (s : State) (d : Side) : Bool :=
  s.media && (match (s.disp.get d).raster with
    | none => true
    | some r => decide (displayHeight s.tables.raster d ≤ r.row) && r.bottom)

/-- The window top comes before its row's active row event. -/
def Display.topDue (x : Display) : Bool :=
  match x.raster, x.comp with
  | some r, some c => decide (r.row = windowY c) && !r.top
  | _, _ => false

/-- The window bottom comes at the line after the last window row. -/
def Display.bottomDue (x : Display) : Bool :=
  match x.raster, x.comp with
  | some r, some c => r.top && decide (r.row = windowY c + windowHeight c) && !r.bottom
  | _, _ => false

/-- The active row that is due: the next one, unless a window event must come before it. -/
def State.rowDue (s : State) (d : Side) : Option Nat :=
  match (s.disp.get d).raster with
  | none => none
  | some r =>
    if s.media && decide (r.row < displayHeight s.tables.raster d) && !(s.disp.get d).topDue && !(s.disp.get d).bottomDue
    then some r.row else none

/-- The window row an active row is, if it lies in the film window's rows. -/
def windowRowOf (comp : Table) (y : Nat) : Option Nat :=
  if windowY comp ≤ y ∧ y < windowY comp + windowHeight comp then some (y - windowY comp) else none

/-- The reader's part of an active row: the state after it and the row's film source, none outside the window. -/
def State.readRow (s : State) (d : Side) (comp : Table) (y : Nat) : State × Option RowSource :=
  match windowRowOf comp y with
  | none => (s, none)
  | some r => ((s.windowRow d (windowScale comp) r).1, some (s.windowRow d (windowScale comp) r).2)

/-- The Display Engine's part: the row is composed and put out, and the raster moves on. -/
def State.putRow (s : State) (d : Side) (comp : Table) (row : Option RowSource) (y : Nat) : State :=
  let x := s.disp.get d
  s.setDisp d { x with
    rowOut := composeRow s.tables x comp row (displayWidth s.tables.raster d) y
    raster := x.raster.map fun r => { r with row := y + 1 } }

/-- Display A offers each row of a mirrored frame upstream (R75). -/
def State.mirrorRow (s : State) (d : Side) (y : Nat) : State :=
  match d, s.mirror.frame with
  | .a, some tag => s.offerPicture (.line .mirror tag y s.disp.a.rowOut)
  | _, _ => s

/-- One active row: reader, Display Engine, mirror (R67, R75). -/
def State.activeRow (s : State) (d : Side) (comp : Table) (y : Nat) : State :=
  ((s.readRow d comp y).1.putRow d comp (s.readRow d comp y).2 y).mirrorRow d y

/-- The window top (R51): only an opened frame's phase becomes INSIDE. -/
def Display.windowTop (x : Display) : Display :=
  { x with
    raster := x.raster.map fun r => { r with top := true }
    reader := if x.reader.opened then { x.reader with phase := .inside } else x.reader }

/-- The window bottom (R55): an opened frame's slots are freed and the phase becomes AFTER. -/
def Display.windowBottom (x : Display) : Display :=
  { x with
    raster := x.raster.map fun r => { r with bottom := true }
    store := if x.reader.opened then x.store.filter fun y => decide (y.tag ≠ x.reader.openTag) else x.store
    reader := if x.reader.opened then { x.reader with phase := .after } else x.reader }

/-- The slots a window bottom counts as UNUSED (R55). -/
def Display.unusedAtBottom (x : Display) : Nat :=
  if x.reader.opened then x.store.countP fun y => decide (y.tag = x.reader.openTag) && !y.drawn else 0

/-! The outputs of a screen (R62) -/

/-- The pixel clock output of a screen: held low, or running at a frequency in kHz. -/
inductive ClockOut where
  | heldLow
  | running (kHz : Nat)
deriving DecidableEq, Repr

/-- The outputs of a screen at one pixel of its raster. -/
structure ScreenPins where
  clk  : ClockOut
  hs   : Bool
  vs   : Bool
  de   : Bool
  data : Rgb
deriving DecidableEq, Repr

/-- The outputs of a stopped display. -/
def ScreenPins.low : ScreenPins := ⟨.heldLow, false, false, false, Rgb.black⟩

/-- The pixel clock of a running display, in kHz (Table 4-2). -/
def pixelClock : Nat → Nat
  | 0 => 24000
  | 1 => 33000
  | 2 => 48000
  | _ => 66000

/-- The outputs of a display at pixel `px` of line `line` of its frame (R62): the pixel clock runs at the rate of the
descriptor while the display runs and is held low while it is stopped; the data pins carry the row just composed on that
row's line. -/
def State.screenPins (s : State) (d : Side) (line px : Nat) : ScreenPins :=
  let f := rasterField s.tables.raster d
  if !s.media then ScreenPins.low
  else
    let de := decide (f 7 ≤ line ∧ line < f 7 + f 8 ∧ f 3 ≤ px ∧ px < f 3 + f 4)
    ⟨.running (pixelClock (f 0)), decide (px < f 2), decide (line < f 6), de,
      if de then (s.disp.get d).rowOut.getD (px - f 3) Rgb.black else Rgb.black⟩

/-! The commands -/

/-- DISPLAY_FRAME_START (R64). -/
def execDisplayFrameStart (d : Side) (s : State) : Result :=
  whenLive s fun s => if s.frameDue d then s.displayFrameStart d else s

/-- WINDOW_TOP (R51, R63). -/
def execWindowTop (d : Side) (s : State) : Result :=
  whenLive s fun s => if s.media && (s.disp.get d).topDue then s.setDisp d (s.disp.get d).windowTop else s

/-- ACTIVE_ROW (R67). -/
def execActiveRow (d : Side) (s : State) : Result :=
  whenLive s fun s => match s.rowDue d, (s.disp.get d).comp with
    | some y, some comp => s.activeRow d comp y
    | _, _ => s

/-- WINDOW_BOTTOM (R55, R63). -/
def execWindowBottom (d : Side) (s : State) : Result :=
  whenLive s fun s =>
    if s.media && (s.disp.get d).bottomDue then
      (s.setDisp d (s.disp.get d).windowBottom).bump (cntUnused d) (s.disp.get d).unusedAtBottom
    else s

end Sys2Proof.Machine
end

