-- ==== Sys2Proof/Machine/Link.lean ====
section
/-! DEFINITION. The Link Port (01_the_cabin_link): taking downstream parcels, admission of requests, the downstream link
state, the upstream arbiter, and the commands of the link. -/

namespace Sys2Proof.Machine

/-! Receiving downstream (R6, R7, R9, R10, R11) -/

/-- A valid parcel restarts the silence timer; from DOWN the link becomes UP, and a recovery queues a LINK notice. -/
def State.linkAlive (s : State) : State :=
  let s' := { s with link := { s.link with up := true, silence := true, seen := s.link.seen || !s.link.up } }
  if !s.link.up && s.link.seen then s'.offerNotice .link 0 1 else s'

/-- Table 1-6: none where the request is ignored or discarded, otherwise its reply wanted mark. -/
def admission (strap station : Nat) : Option Bool :=
  if strap = Config.strapOff then none
  else if strap = 0 then some true
  else if station = strap then some true
  else if station = 0 then some false
  else none

/-- A request is offered to the request queue (R16). -/
def State.offerRequest (s : State) (r : QueuedRequest) : State :=
  if s.unit.queue.length < Config.requestDepth then
    { s with unit := { s.unit with queue := s.unit.queue ++ [r] } }
  else s.bump cntDroppedRequests 1

/-- Table 1-5: the dispatch of a valid parcel by its kind and the service state. -/
def State.dispatch (s : State) (p : Parcel) : State :=
  match p.kind with
  | .fill => s
  | .pictureLine =>
    if s.media then s.pictureLine p.header.prog p.header.picTag p.header.line (unpackPixels p.payload) else s
  | .pictureMark =>
    if s.media then
      s.pictureMark p.header.prog p.header.picTag (p.payload.getD 0 0).toNat (p.payload.getD 1 0).toNat
    else s
  | .sound => if s.media then s.soundArrives p.header.prog (unpackFrames p.payload) else s
  | .request =>
    match admission s.link.strap.toNat p.header.station with
    | none => s
    | some wanted => s.offerRequest ⟨p.payload, p.header.tag, wanted⟩

/-- The Link Port takes a parcel that the physical layer hands over: the tests of R6, then R10 and R7 for a valid one. -/
def State.receive (s : State) (words : List Word) : State :=
  match classify words with
  | .checkFail => s.bump cntCheckFail 1
  | .badParcel => s.bump cntBadParcel 1
  | .valid p => s.linkAlive.dispatch p

/-! The link goes down (R10, R12) -/

/-- The queued picture parcels and a waiting reply are discarded and counted, and the link is DOWN. -/
def State.linkDown (s : State) : State :=
  let n := s.rear.queue.length + (if s.link.slot.isSome then 1 else 0)
  State.bump (State.emptySlot { s with
    link := { s.link with up := false, silence := false }
    rear := { s.rear with queue := [] } }) cntUpDiscards n

/-! The upstream arbiter (R15) -/

/-- The next parcel begins: a picture parcel, the reply, a notice, or FILL. -/
def State.beginParcel (s : State) : State :=
  let sending (s : State) (ws : List Word) : State := { s with link := { s.link with sending := ws } }
  if !s.link.up then sending s (fillParcel s.link.strap)
  else match s.rear.queue with
    | p :: rest => sending { s with rear := { s.rear with queue := rest } } (pictureParcel s.link.strap p)
    | [] => match s.link.slot with
      | some r => sending s.emptySlot (replyParcel s.link.strap r)
      | none => match s.notices.records with
        | n :: rest =>
          sending { s with notices := { s.notices with records := rest } } (noticeParcel s.link.strap n)
        | [] => sending s (fillParcel s.link.strap)

/-! The commands. The Link Port sees words only, so each of the six parcel commands lets it act on the words it carries;
a well-formed command carries the words its name says (log 5). -/

/-- DISCARDED_PARCEL (R6). -/
def execDiscardedParcel (words : List Word) (s : State) : Result := whenLive s fun s => s.receive words

/-- FILL (R7, R10). -/
def execFill (words : List Word) (s : State) : Result := whenLive s fun s => s.receive words

/-- PICTURE_LINE (R7, R46). -/
def execPictureLine (words : List Word) (s : State) : Result := whenLive s fun s => s.receive words

/-- PICTURE_MARK (R7, R44). -/
def execPictureMark (words : List Word) (s : State) : Result := whenLive s fun s => s.receive words

/-- SOUND (R7, R142). -/
def execSound (words : List Word) (s : State) : Result := whenLive s fun s => s.receive words

/-- REQUEST (R7, R9, R16). -/
def execRequest (words : List Word) (s : State) : Result := whenLive s fun s => s.receive words

/-- SILENCE_TIMER_EXPIRY (R10, R12). -/
def execSilenceTimerExpiry (s : State) : Result := whenLive s fun s => if s.link.silence then s.linkDown else s

/-- PARCEL_END (R15). -/
def execParcelEnd (s : State) : Result := whenLive s State.beginParcel

/-- REPLY_HANDOFF (R14, R17): the reply kept while HOLDING is handed to the empty slot. -/
def execReplyHandoff (s : State) : Result :=
  whenLive s fun s => match s.unit.status, s.link.slot with
    | .holding r, none => s.handOff r
    | _, _ => s

end Sys2Proof.Machine
end

