-- ==== Sys2Proof/Machine/Requests.lean ====
section
/-! DEFINITION. The Request Unit (02_requests_tables_and_notices): taking a request, table transfers, commits, START and
RESTART, the requests other blocks carry out, and the commands POINT to RESUME and UNKNOWN_REQUEST_NAME. -/

namespace Sys2Proof.Machine

/-! Taking and answering a request (R17, R18) -/

/-- What carrying out a request leaves: the state, the reply's code and data, and the restart it schedules. -/
structure Answer where
  state   : State
  code    : ReplyCode
  data    : List Word
  restart : Option RestartKind
deriving DecidableEq, Repr

def Answer.of (s : State) (code : ReplyCode) (data : List Word) : Answer := ⟨s, code, data, none⟩

def Answer.done (s : State) : Answer := ⟨s, .done, [], none⟩

/-- The finished reply (R17): dropped where it is not wanted (a restart is then due at once), handed to an empty slot,
kept while the slot is full. -/
def State.finish (s : State) (r : QueuedRequest) (code : ReplyCode) (data : List Word) (restart : Option RestartKind) :
    State :=
  if r.wanted then
    if s.link.slot.isNone then s.handOff ⟨r.tag, code, data, restart⟩
    else { s with unit := { s.unit with status := .holding ⟨r.tag, code, data, restart⟩ } }
  else match restart with
    | none => s
    | some k => { s with unit := { s.unit with status := .restarting k true } }

def Answer.finish (a : Answer) (r : QueuedRequest) : State := a.state.finish r a.code a.data a.restart

/-- The state once the oldest request has been removed. -/
def State.dequeue (s : State) : State := { s with unit := { s.unit with queue := s.unit.queue.tail } }

/-- The oldest request, if the unit is READY (R17). -/
def State.nextRequest (s : State) : Option QueuedRequest :=
  match s.unit.status with
  | .ready => s.unit.queue.head?
  | _ => none

/-- The answer to a request of a name: the tests of R18, then the request's own rule. -/
def State.answer (s : State) (n : RequestName) (r : QueuedRequest) (body : QueuedRequest → State → Answer) : Answer :=
  match requestRefusal n s.unit.service r with
  | some code => .of s code []
  | none => body r s

/-- The Request Unit takes its oldest request if that has the name (R17, log 4), and carries it out as one event. -/
def State.serve (s : State) (n : RequestName) (body : QueuedRequest → State → Answer) : State :=
  match s.nextRequest with
  | none => s
  | some r => if r.name = some n then (s.dequeue.answer n r body).finish r else s

/-! POINT, PUT and GET (R19 to R23) -/

def State.setPointer (s : State) (t : TableId) (i : Nat) : State := { s with unit := { s.unit with pointer := ⟨t, i⟩ } }

def pointBody (r : QueuedRequest) (s : State) : Answer :=
  match tableOfId (r.arg 0) with
  | none => .of s .table []
  | some t => if r.arg 1 < tableSize t then .done (s.setPointer t (r.arg 1)) else .of s .index []

/-- Whether a word is IN_USE (R21). -/
def State.wordInUse (s : State) (t : TableId) (i : Nat) : Bool :=
  match t with
  | .raster => s.media
  | .chimes => s.chimes.holds (i / 8)
  | .waves => s.chimes.waveInUse s.tables.chimes i
  | _ => false

/-- Whether a table is the staging bank of a group that is not IDLE (R20, R22). -/
def State.groupBusy (s : State) (t : TableId) : Bool :=
  match stagingOf t with
  | some g => decide ((s.tables.group g).state ≠ .idle)
  | none => false

/-- The first word of a run whose value is illegal (R20 step 5). -/
def firstIllegal (t : TableId) : Nat → List Word → Option Nat
  | _, [] => none
  | i, w :: ws => if wordLegal t i w then firstIllegal t (i + 1) ws else some i

/-- Whether any index of a run has a property. -/
def anyIndex (i n : Nat) (p : Nat → Bool) : Bool := (List.range n).any fun k => p (i + k)

/-- The tests of a PUT on the run of words `ws` at index `i` of table `t`, in the order of R20. -/
def State.putRefusal (s : State) (t : TableId) (i : Nat) (ws : List Word) : Option (ReplyCode × List Word) :=
  if ws = [] then none
  else if anyIndex i ws.length fun k => !wordWritable t k then some (.table, [])
  else if t = .cameraActive ∧ !s.bankWritable then some (.state, [])
  else if s.groupBusy t then some (.pending, [])
  else if anyIndex i ws.length (s.wordInUse t) then some (.inUse, [])
  else (firstIllegal t i ws).map fun k => (.value, [BitVec.ofNat 16 k])

/-- A PUT of STEERING (R77, R86): word 8 clears the LIMIT flag; setup words are stored and their effects applied. -/
def State.putSteering (s : State) (i : Nat) (ws : List Word) : State :=
  if i ≤ 5 then
    let t := s.tables.steering.writeFrom i ws
    State.setSteer { s with tables := { s.tables with steering := t } }
      (s.steer.applySetup (decide (i = 0)) (steerSetup t))
  else { s with steer := { s.steer with limitFlag := false } }

/-- A PUT of CONTROL (R32): one that writes word 9 evaluates the reverse source (R100). -/
def State.putControl (s : State) (i : Nat) (ws : List Word) : State :=
  let s' := { s with tables := { s.tables with control := s.tables.control.writeFrom i ws } }
  if i ≤ 9 ∧ 9 < i + ws.length then s'.evalReverse else s'

def Group.putStaging (g : Group) (i : Nat) (ws : List Word) : Group := { g with staging := g.staging.writeFrom i ws }

/-- The words of a PUT that passed are written, in one event. -/
def State.putWords (s : State) (t : TableId) (i : Nat) (ws : List Word) : State :=
  match t with
  | .ident => { s with unit := { s.unit with cause := .none } }
  | .control => s.putControl i ws
  | .raster => { s with tables := { s.tables with raster := s.tables.raster.writeFrom i ws } }
  | .composeA => s.setGroup .composeA (s.tables.composeA.putStaging i ws)
  | .composeB => s.setGroup .composeB (s.tables.composeB.putStaging i ws)
  | .route => { s with tables := { s.tables with route := s.tables.route.writeFrom i ws } }
  | .steering => s.putSteering i ws
  | .camera => s.setGroup .camera (s.tables.camera.putStaging i ws)
  | .pages => { s with tables := { s.tables with pages := s.tables.pages.writeFrom i ws } }
  | .items => { s with tables := { s.tables with items := s.tables.items.writeFrom i ws } }
  | .tiles => { s with tables := { s.tables with tiles := s.tables.tiles.writeFrom i ws } }
  | .palettes => { s with tables := { s.tables with palettes := s.tables.palettes.writeFrom i ws } }
  | .chimes => { s with tables := { s.tables with chimes := s.tables.chimes.writeFrom i ws } }
  | .waves => { s with tables := { s.tables with waves := s.tables.waves.writeFrom i ws } }
  | .mixer => { s with tables := { s.tables with mixer := s.tables.mixer.writeFrom i ws } }
  | .stats => { s with tables := { s.tables with
      stats := s.tables.stats.writeFrom i (List.replicate ws.length 0) } }
  | .composeAActive => s
  | .composeBActive => s
  | .cameraActive => s.setGroup .camera { s.tables.camera with active := s.tables.camera.active.writeFrom i ws }

/-- Ends that the last tick brought come about before a PUT reaches CHIMES or WAVES, whose IN_USE they decide (log 8). -/
def State.readyFor (s : State) (t : TableId) : State :=
  if t = .chimes ∨ t = .waves then s.settleEnds else s

/-- PUT of the words `ws` at the window pointer (R20). -/
def State.put (s : State) (ws : List Word) : Answer :=
  let t := s.unit.pointer.table
  let i := s.unit.pointer.index
  let run := ws.take (tableSize t - i)
  let s := s.readyFor t
  match s.putRefusal t i run with
  | some (code, data) => .of s code data
  | none =>
    let s' := (if run = [] then s else s.putWords t i run).setPointer t (i + run.length)
    if run.length = ws.length then .done s' else .of s' .index [BitVec.ofNat 16 run.length]

def putBody (r : QueuedRequest) (s : State) : Answer := s.put (r.payload.drop 2)

/-- GET of `n` words at the window pointer (R22). -/
def State.get (s : State) (n : Nat) : Answer :=
  let t := s.unit.pointer.table
  let i := s.unit.pointer.index
  if s.groupBusy t then .of s .pending []
  else
    let m := min n (tableSize t - i)
    .of (s.setPointer t (i + m)) (if m = n then .done else .index) (s.readRun t i m)

def getBody (r : QueuedRequest) (s : State) : Answer := s.get (r.arg 0)

/-! COMMIT, START and RESTART (R25, R26, R36, R37) -/

/-- Table 2-1, COMMIT. -/
def groupOfArg : Nat → GroupId
  | 0 => .camera
  | 1 => .composeA
  | _ => .composeB

/-- The check of a group's staging bank: the first word to fail (R36). -/
def State.bankFailure (s : State) (g : GroupId) : Option Nat :=
  match g with
  | .camera => cameraBankFailure s.tables.camera.staging
  | .composeA => composeFailure s.tables.composeA.staging (displaySize s.tables.raster .a)
  | .composeB => composeFailure s.tables.composeB.staging (displaySize s.tables.raster .b)

/-- Whether a group's consumer runs (Table 2-6). -/
def State.consumerRuns (s : State) (g : GroupId) : Bool :=
  match g with
  | .camera => true
  | _ => s.media

/-- COMMIT of a group (R36, R37). -/
def State.commit (s : State) (g : GroupId) : Answer :=
  let b := s.tables.group g
  if b.state ≠ .idle then .of s .pending []
  else match s.bankFailure g with
    | some w => .of s .value [BitVec.ofNat 16 w]
    | none =>
      if s.consumerRuns g then .done (s.setGroup g { b with state := .swapPending })
      else .done ((s.setGroup g b.commitNow).offerNotice .group g.code GroupState.idle.code)

def commitBody (r : QueuedRequest) (s : State) : Answer := s.commit (groupOfArg (r.arg 0))

/-- The first test of START that fails: table id and word (R25). -/
def State.startFailure (s : State) : Option (Nat × Nat) :=
  match rasterFailure s.tables.raster .a, rasterFailure s.tables.raster .b,
    composeFailure s.tables.composeA.active (displaySize s.tables.raster .a),
    composeFailure s.tables.composeB.active (displaySize s.tables.raster .b) with
  | some w, _, _, _ => some (2, w)
  | none, some w, _, _ => some (2, w)
  | none, none, some w, _ => some (16, w)
  | none, none, none, some w => some (17, w)
  | none, none, none, none => none

def startBody (_ : QueuedRequest) (s : State) : Answer :=
  match s.startFailure with
  | some (t, w) => .of s .value [BitVec.ofNat 16 t, BitVec.ofNat 16 w]
  | none => .done { s with unit := { s.unit with service := .media } }

/-- RESTART replies DONE and schedules its restart (R26). -/
def restartBody (r : QueuedRequest) (s : State) : Answer :=
  ⟨s, .done, [], some (if r.arg 0 = 0 then .media else .full)⟩

/-! Requests carried out by other blocks (R29 to R31) -/

def vehicleBody (r : QueuedRequest) (s : State) : Answer :=
  .done (State.evalReverse { s with rear := { s.rear with inband := decide (r.arg 0 = 1) } })

/-- Table 2-1, VIEW. -/
def viewOfArg : Nat → View
  | 0 => .none
  | 1 => .camera
  | _ => .mirror

def viewBody (r : QueuedRequest) (s : State) : Answer :=
  .done (State.refreshView { s with rear := { s.rear with requested := viewOfArg (r.arg 0) } })

def holdBody (_ : QueuedRequest) (s : State) : Answer := .done (s.setHoldRequest true)

def releaseBody (_ : QueuedRequest) (s : State) : Answer :=
  if s.guide.hold = .free then .of s .state [] else .done (s.setHoldRequest false)

def keyBody (r : QueuedRequest) (s : State) : Answer := .done (s.pressKey (sideOf (r.arg 0)) (keyOf (r.arg 1)))

def openPageBody (r : QueuedRequest) (s : State) : Answer :=
  let seat := sideOf (r.arg 0)
  if Config.pageCount ≤ r.arg 1 ∨ Config.stackDepth ≤ (s.menuOf seat).stack.length then .of s .value []
  else .done ((s.pushPage seat (r.arg 1)).setTimeout seat)

def chimeBody (r : QueuedRequest) (s : State) : Answer :=
  if Config.chimeCount ≤ r.arg 0 || chimeEmpty s.tables.chimes (r.arg 0) then .of s .value []
  else .done (s.requestChime (r.arg 0))

def stopChimeBody (r : QueuedRequest) (s : State) : Answer :=
  .done { s with chimes := s.chimes.stopNamed s.tables.chimes (r.arg 0) }

/-- RESUME (R30, R57). -/
def resumeBody (r : QueuedRequest) (s : State) : Answer :=
  let d := sideOf (r.arg 0)
  let x := s.disp.get d
  if x.reader.picture = .halted then .done (s.setDisp d { x with reader := { x.reader with resume := true } })
  else .of s .state []

/-! The commands -/

/-- POINT (R19). -/
def execPoint (s : State) : Result := whenLive s fun s => s.serve .point pointBody
/-- PUT (R20, R21). -/
def execPut (s : State) : Result := whenLive s fun s => s.serve .put putBody
/-- GET (R22). -/
def execGet (s : State) : Result := whenLive s fun s => s.serve .get getBody
/-- COMMIT (R36). -/
def execCommit (s : State) : Result := whenLive s fun s => s.serve .commit commitBody
/-- START (R25). -/
def execStart (s : State) : Result := whenLive s fun s => s.serve .start startBody
/-- RESTART (R26). -/
def execRestart (s : State) : Result := whenLive s fun s => s.serve .restart restartBody
/-- VEHICLE (R29, R100). -/
def execVehicle (s : State) : Result := whenLive s fun s => s.serve .vehicle vehicleBody
/-- VIEW (R29, R102). -/
def execView (s : State) : Result := whenLive s fun s => s.serve .view viewBody
/-- HOLD (R29, R105). -/
def execHold (s : State) : Result := whenLive s fun s => s.serve .hold holdBody
/-- RELEASE (R29, R105). -/
def execRelease (s : State) : Result := whenLive s fun s => s.serve .release releaseBody
/-- KEY (R30, R124). -/
def execKey (s : State) : Result := whenLive s fun s => s.serve .key keyBody
/-- OPEN_PAGE (R30, R137). -/
def execOpenPage (s : State) : Result := whenLive s fun s => s.serve .openPage openPageBody
/-- CHIME (R31, R156). -/
def execChime (s : State) : Result := whenLive s fun s => s.serve .chime chimeBody
/-- STOP_CHIME (R31, R161). -/
def execStopChime (s : State) : Result := whenLive s fun s => s.serve .stopChime stopChimeBody
/-- RESUME (R30, R57). -/
def execResume (s : State) : Result := whenLive s fun s => s.serve .resume resumeBody

/-- UNKNOWN_REQUEST_NAME (R18 step 1). -/
def execUnknownRequestName (s : State) : Result :=
  whenLive s fun s => match s.nextRequest with
    | none => s
    | some r => if r.name = none then s.dequeue.finish r .unknown [] none else s

end Sys2Proof.Machine
end

