-- ==== Sys2Proof/Machine/Resets.lean ====
section
/-! DEFINITION. Resets and restarts (R26 to R28 and the reset tables of each chapter), and their commands. -/

namespace Sys2Proof.Machine

def State.outs (s : State) : PerOutlet Stereo := ⟨s.outlets.zoneA.out, s.outlets.zoneB.out, s.outlets.cabin.out⟩

def silentOuts : PerOutlet Stereo := ⟨Stereo.silence, Stereo.silence, Stereo.silence⟩

/-- The part under reset (R28): every block at its reset value, nothing sent, no timer running. The straps and the reset
cause keep their values until the release sets them (log 23). -/
def State.underReset (s : State) (k : ResetKind) : State :=
  State.blank (some k) s.link.strap s.rear.autocam s.unit.cause [] none silentOuts s.pending

def ResetKind.cause : ResetKind → ResetCause
  | .power => .power
  | .pin => .pin

/-- The release of a reset (R8, R28, R39, R95, R102, R150): straps sampled, cause set, FILL begins, the free-run timer
starts. -/
def State.released (s : State) (k : ResetKind) (stn : BitVec 4) (autocam : Bool) : State :=
  State.blank none stn autocam k.cause (fillParcel stn) (some Config.freeRunDefault) silentOuts s.pending

/-- A full restart (R28): the straps, the upstream parcel under way and the outlets' last output frames stay (Table 1-7,
R150, log 15). -/
def State.fullRestart (s : State) : State :=
  State.blank none s.link.strap s.rear.autocam .full s.link.sending (some Config.freeRunDefault) s.outs s.pending

/-! Media restart (R27) -/

/-- The waiting exchange of a COMPOSE group is completed; a swap made so offers its notice (R37). -/
def State.completeGroup (s : State) (g : GroupId) : State :=
  let b := s.tables.group g
  let s' := s.setGroup g b.complete
  if b.swaps then s'.offerNotice .group g.code GroupState.idle.code else s'

/-- A display stops (R59, R76). -/
def State.stopDisplay (s : State) (d : Side) : State :=
  let was := (s.disp.get d).reader.picture
  let s' := s.setDisp d stoppedDisplay
  if was = .noSource then s' else s'.offerPictureNotice d .noSource

/-- A Menu Engine closes; its debouncers keep their levels (R139). -/
def Menu.closed (m : Menu) : Menu := { m with stack := [], timeout := none, banner := none, repeats := PerKey.all none }

/-- An outlet's ramped gain becomes 0 (R146). -/
def OutletState.muted (o : OutletState) : OutletState := { o with gain := 0 }

/-- The Chime Engine falls silent and keeps the admission level (R162). -/
def ChimeEngine.silenced (c : ChimeEngine) : ChimeEngine :=
  { c with voices := ⟨none, none, none⟩, suspended := [], queue := [] }

/-- The blocks of the media side that offer no notice. -/
def State.stopMediaSide (s : State) : State :=
  { s with
    unit := { s.unit with service := .cameraOnly, cause := .media, status := .ready }
    formats := clearFormats
    mirror := clearMirror
    menus := ⟨s.menus.a.closed, s.menus.b.closed⟩
    rings := emptyRings
    outlets := s.outlets.map fun _ o => o.muted
    chimes := s.chimes.silenced }

/-- A media restart takes effect (R27). -/
def State.mediaRestart (s : State) : State :=
  ((((s.stopMediaSide.completeGroup .composeA).completeGroup .composeB).stopDisplay .a).stopDisplay .b)

/-! The commands -/

/-- POWER_ON_RESET (R28). -/
def execPowerOnReset (s : State) : Result := .next (s.underReset .power)

/-- PIN_RESET (R28). -/
def execPinReset (s : State) : Result := .next (s.underReset .pin)

/-- RESET_RELEASE (R8, R28): of the reset in force. -/
def execResetRelease (stn : BitVec 4) (autocam : Bool) (s : State) : Result :=
  .next (match s.held with
    | some k => s.released k stn autocam
    | none => s)

/-- FULL_RESTART (R26, R28): a full restart that is due takes effect. -/
def execFullRestart (s : State) : Result :=
  whenLive s fun s => if s.unit.status = .restarting .full true then s.fullRestart else s

/-- MEDIA_RESTART (R26, R27): a media restart that is due takes effect. -/
def execMediaRestart (s : State) : Result :=
  whenLive s fun s => if s.unit.status = .restarting .media true then s.mediaRestart else s

end Sys2Proof.Machine
end

