-- ==== Sys2Proof/Machine/Dispatch.lean ====
section
/-! DEFINITION. The dispatch of a command to its meaning, one arm for each row of the table. -/

namespace Sys2Proof.Machine

open Sys2Proof

def exec (i : Instr) (s : State) : Host.Outcome State Fault Refusal :=
  match i with
  | .powerOnReset => Sys2Proof.Machine.execPowerOnReset s
  | .pinReset => Sys2Proof.Machine.execPinReset s
  | .resetRelease stn autocam => Sys2Proof.Machine.execResetRelease stn autocam s
  | .fullRestart => Sys2Proof.Machine.execFullRestart s
  | .mediaRestart => Sys2Proof.Machine.execMediaRestart s
  | .discardedParcel words => Sys2Proof.Machine.execDiscardedParcel words s
  | .fill words => Sys2Proof.Machine.execFill words s
  | .pictureLine words => Sys2Proof.Machine.execPictureLine words s
  | .pictureMark words => Sys2Proof.Machine.execPictureMark words s
  | .sound words => Sys2Proof.Machine.execSound words s
  | .request words => Sys2Proof.Machine.execRequest words s
  | .silenceTimerExpiry => Sys2Proof.Machine.execSilenceTimerExpiry s
  | .parcelEnd => Sys2Proof.Machine.execParcelEnd s
  | .replyHandoff => Sys2Proof.Machine.execReplyHandoff s
  | .point => Sys2Proof.Machine.execPoint s
  | .put => Sys2Proof.Machine.execPut s
  | .get => Sys2Proof.Machine.execGet s
  | .commit => Sys2Proof.Machine.execCommit s
  | .start => Sys2Proof.Machine.execStart s
  | .restart => Sys2Proof.Machine.execRestart s
  | .vehicle => Sys2Proof.Machine.execVehicle s
  | .view => Sys2Proof.Machine.execView s
  | .hold => Sys2Proof.Machine.execHold s
  | .release => Sys2Proof.Machine.execRelease s
  | .key => Sys2Proof.Machine.execKey s
  | .openPage => Sys2Proof.Machine.execOpenPage s
  | .chime => Sys2Proof.Machine.execChime s
  | .stopChime => Sys2Proof.Machine.execStopChime s
  | .resume => Sys2Proof.Machine.execResume s
  | .displayFrameStart d => Sys2Proof.Machine.execDisplayFrameStart d s
  | .windowTop d => Sys2Proof.Machine.execWindowTop d s
  | .activeRow d => Sys2Proof.Machine.execActiveRow d s
  | .windowBottom d => Sys2Proof.Machine.execWindowBottom d s
  | .filterSample a b ix => Sys2Proof.Machine.execFilterSample a b ix s
  | .frameSync hs => Sys2Proof.Machine.execFrameSync hs s
  | .lineSync clocks => Sys2Proof.Machine.execLineSync clocks s
  | .syncWatchExpiry => Sys2Proof.Machine.execSyncWatchExpiry s
  | .freeRunExpiry => Sys2Proof.Machine.execFreeRunExpiry s
  | .cameraRow pixels => Sys2Proof.Machine.execCameraRow pixels s
  | .fillRow => Sys2Proof.Machine.execFillRow s
  | .generatedRow => Sys2Proof.Machine.execGeneratedRow s
  | .rowDrawn => Sys2Proof.Machine.execRowDrawn s
  | .reverseLevelChange samples => Sys2Proof.Machine.execReverseLevelChange samples s
  | .calLevelChange samples => Sys2Proof.Machine.execCalLevelChange samples s
  | .lingerExpiry => Sys2Proof.Machine.execLingerExpiry s
  | .press seat key samples => Sys2Proof.Machine.execPress seat key samples s
  | .keyRelease seat key samples => Sys2Proof.Machine.execKeyRelease seat key samples s
  | .repeatTimerExpiry seat key => Sys2Proof.Machine.execRepeatTimerExpiry seat key s
  | .timeoutExpiry seat => Sys2Proof.Machine.execTimeoutExpiry seat s
  | .bannerExpiry seat => Sys2Proof.Machine.execBannerExpiry seat s
  | .sampleTick => Sys2Proof.Machine.execSampleTick s
  | .voiceNaturalEnd => Sys2Proof.Machine.execVoiceNaturalEnd s
  | .releaseEnd => Sys2Proof.Machine.execReleaseEnd s
  | .cabinTimeTick => Sys2Proof.Machine.execCabinTimeTick s
  | .unknownRequestName => Sys2Proof.Machine.execUnknownRequestName s

end Sys2Proof.Machine
end

