-- ==== Sys2Proof/Safety.lean ====
section
/-! DEFINITION. What the spec promises of the whole part at every moment, block by block. Each promise is a decidable
property of the state; the statements say which of them every step keeps. -/

namespace Sys2Proof.Machine

/-! Tables -/

/-- A table in canonical form with no word at or beyond its size (Table 2-2). -/
def Table.fits (t : Table) (n : Nat) : Bool := t.wf && t.below n

/-- Both banks of a group are tables of its size. -/
def Group.fits (g : Group) (n : Nat) : Bool := g.staging.fits n && g.active.fits n

/-- Every table of the Table Store is in canonical form and within its size. -/
def TableStore.fits (t : TableStore) : Bool :=
  t.control.fits 32 && t.raster.fits 32 && t.route.fits 8 && t.steering.fits 16 && t.pages.fits 256 &&
  t.items.fits 5120 && t.tiles.fits 16384 && t.palettes.fits 128 && t.chimes.fits 256 && t.waves.fits 65536 &&
  t.mixer.fits 64 && t.stats.fits 64 && t.camera.fits 512 && t.composeA.fits 32 && t.composeB.fits 32

/-- Every word a PUT can write in a checked table holds a legal value (Tables 2-4, 5-1 and 9-2, R21). -/
def TableStore.legal (t : TableStore) : Bool :=
  ((List.range 21).all fun i => wordLegal .control i (t.control.read i)) &&
  ((List.range 5).all fun i => wordLegal .route i (t.route.read i)) &&
  ((List.range 6).all fun i => wordLegal .steering i (t.steering.read i)) &&
  ((List.range 35).all fun i => wordLegal .mixer i (t.mixer.read i))

/-! Notices (R38, R40) -/

/-- The source details a kind's records carry (Table 2-8); SELECT details are free. -/
def detailLegal (k : NoticeKind) (d : Word) : Bool :=
  match k with
  | .select => true
  | .group => decide (d.toNat ≤ 2)
  | .picture => decide (d.toNat ≤ 1)
  | .sound => decide (d.toNat ≤ 3)
  | .route | .camera | .steer | .reverse | .link => decide (d = 0)

/-- Two records that may stand in the queue together: not of one state source. -/
def Notice.apart (x y : Notice) : Bool := decide (x.kind = .select) || !decide (x.kind = y.kind ∧ x.detail = y.detail)

/-- No two records of a list are of one state source. -/
def noticesApart : List Notice → Bool
  | [] => true
  | n :: rest => rest.all (fun m => n.apart m) && noticesApart rest

/-- At most one record per state source, at most 2 SELECT records, every source one of Table 2-8. -/
def NoticeQueue.sound (q : NoticeQueue) : Bool :=
  noticesApart q.records && decide (q.selects ≤ Config.selectDepth) &&
    q.records.all fun n => detailLegal n.kind n.detail

/-! Line stores (R47) -/

/-- No two slots of a list hold the same tag and line number. -/
def slotsDistinct : List Slot → Bool
  | [] => true
  | x :: rest => rest.all (fun y => !decide (x.tag = y.tag ∧ x.line = y.line)) && slotsDistinct rest

def Display.storeSound (x : Display) : Bool :=
  decide (x.store.length ≤ Config.storeDepth) && slotsDistinct x.store

/-! Link and upstream pictures (R12, R103, R104) -/

/-- While the link is DOWN the silence timer is stopped, the reply slot and the upstream picture queue are empty; while
it is UP the timer runs and the link has been seen. -/
def State.linkSound (s : State) : Bool :=
  if s.link.up then s.link.silence && s.link.seen
  else !s.link.silence && s.link.slot.isNone && s.rear.queue.isEmpty

def UpPicture.source : UpPicture → PictureSource
  | .mark src _ _ _ => src
  | .line src _ _ _ => src

/-- Whether a picture's source is that of a view. -/
def View.sends (v : View) (p : PictureSource) : Bool :=
  match v, p with
  | .camera, .camera => true
  | .mirror, .mirror => true
  | _, _ => false

/-- The actual view is the one its inputs give; flags and queued parcels belong to it; the queue holds at most 4. -/
def State.viewSound (s : State) : Bool :=
  decide (s.rear.actual = s.rear.viewOf) &&
  (s.rear.camFlag.isNone || decide (s.rear.actual = .camera)) &&
  (s.mirror.frame.isNone || decide (s.rear.actual = .mirror)) &&
  s.rear.queue.all (fun p => s.rear.actual.sends p.source) &&
  decide (s.rear.queue.length ≤ Config.upstreamDepth)

/-! Steering (R82) and hold (R105) -/

/-- The count lies within the present limit. -/
def State.countSound (s : State) : Bool :=
  decide (-(s.tables.steering.nat 3 : Int) ≤ s.steer.count ∧ s.steer.count ≤ s.tables.steering.nat 3)

/-- FREE has no cause and HELD has one. -/
def State.holdSound (s : State) : Bool :=
  match s.guide.hold with
  | .free => !s.holdCause
  | .held => s.holdCause
  | _ => true

/-! Camera (R93 to R96, R98) -/

/-- Counts, timers and the frame in progress agree with the camera state. -/
def CameraInput.sound (c : CameraInput) (live : Bool) : Bool :=
  decide (c.buffer.length ≤ Config.bufferDepth) && decide (c.good ≤ 3) && decide (c.bad ≤ 2) &&
  (match c.state with
    | .noSignal => c.watch.isNone && (!live || c.freeRun.isSome) && c.measured.isNone
    | .acquiring => c.watch.isSome && (!live || c.freeRun.isSome) && decide (c.good ≤ 2)
    | .locked => c.watch.isSome && c.freeRun.isNone && decide (c.bad ≤ 1)) &&
  (match c.frame with
    | some f => decide (f.kind = .camera ↔ c.state = .locked)
    | none => decide (c.state ≠ .locked))

/-! Menus (R127) -/

def PageEntry.sound (e : PageEntry) : Bool :=
  decide (e.page < Config.pageCount) && (match e.highlight with
    | some h => decide (h < 12)
    | none => true)

/-- At most 6 entries, each naming a page record and a position 0 to 11; a CLOSED seat has no timeout. -/
def Menu.sound (m : Menu) : Bool :=
  decide (m.stack.length ≤ Config.stackDepth) && m.stack.all PageEntry.sound && (m.timeout.isNone || !m.stack.isEmpty)

/-! Sound (R140, R146, R151) -/

def Ring.sound (r : Ring) : Bool :=
  decide (r.frames.length ≤ Config.ringDepth) && (decide (r.state ≠ .unrouted) || r.frames.isEmpty)

def OutletState.sound (o : OutletState) : Bool :=
  decide (o.gain ≤ Config.unity) && decide (o.duck ≤ Config.unity)

/-! Chimes (R153, R160) -/

/-- The chime numbers of the voices, the suspend list and the pending queue together. -/
def ChimeEngine.numbers (c : ChimeEngine) : List Nat :=
  [c.voices.v0, c.voices.v1, c.voices.v2].filterMap (fun x => x.map fun v => v.chime) ++
    c.suspended.map (fun p => p.chime) ++ c.queue

/-- Lists within their sizes, no chime number twice, each below 32. -/
def ChimeEngine.sound (c : ChimeEngine) : Bool :=
  decide (c.suspended.length ≤ Config.suspendDepth) && decide (c.queue.length ≤ Config.pendingDepth) &&
  decide c.numbers.Nodup && c.numbers.all fun n => decide (n < Config.chimeCount)

/-- No voice is SOUNDING a chime whose priority is below the admission level (R160). -/
def ChimeEngine.admits (c : ChimeEngine) (chimes : Table) : Bool :=
  [c.voices.v0, c.voices.v1, c.voices.v2].all fun x => match x with
    | some v => v.releasing || decide (c.level ≤ prioOf chimes v.chime)
    | none => true

/-- The pending queue is ordered by priority, highest first (R153). -/
def queueOrdered (chimes : Table) : List Nat → Bool
  | [] => true
  | n :: rest => rest.all (fun m => decide (prioOf chimes m ≤ prioOf chimes n)) && queueOrdered chimes rest

/-! Service (R24, R37) -/

/-- While the service state is CAMERA_ONLY the media side is at rest: both COMPOSE groups IDLE, both displays stopped in
NO_SOURCE with no route and empty stores, both seats CLOSED, every programme UNROUTED with an empty ring. -/
def State.restSound (s : State) : Bool :=
  s.media ||
    (decide (s.tables.composeA.state = .idle) && decide (s.tables.composeB.state = .idle) &&
      decide (s.disp = ⟨stoppedDisplay, stoppedDisplay⟩) && s.menus.a.stack.isEmpty && s.menus.b.stack.isEmpty &&
      decide (s.rings = emptyRings) && decide (s.formats = clearFormats))

/-- The request queue holds at most 8 (R16). -/
def RequestUnit.sound (u : RequestUnit) : Bool := decide (u.queue.length ≤ Config.requestDepth)

/-! Words in which the statements speak -/

/-- The command that carries out a request of a name. -/
def RequestName.command : RequestName → Instr
  | .point => .point
  | .put => .put
  | .get => .get
  | .commit => .commit
  | .start => .start
  | .restart => .restart
  | .vehicle => .vehicle
  | .view => .view
  | .hold => .hold
  | .release => .release
  | .key => .key
  | .openPage => .openPage
  | .chime => .chime
  | .stopChime => .stopChime
  | .resume => .resume

/-- The Request Unit is READY, no reset holds the part, and `r` is the oldest request, with `q` behind it (R17). -/
def State.about (s : State) (r : QueuedRequest) (q : List QueuedRequest) : Prop :=
  s.held = none ∧ s.unit.status = .ready ∧ s.unit.queue = r :: q

/-- The state with another request queue. -/
def State.withQueue (s : State) (q : List QueuedRequest) : State := { s with unit := { s.unit with queue := q } }

/-- The oldest request has the name and passes the tests of R18, so that its own rule carries it out. -/
def State.takes (s : State) (n : RequestName) (r : QueuedRequest) (q : List QueuedRequest) : Prop :=
  s.about r q ∧ r.name = some n ∧ requestRefusal n s.unit.service r = none

/-- The timeout a seat's stack asks for: its top page's, limited to 60; 0 leaves the timer stopped (R132). -/
def timeoutOf (pages : Table) : List PageEntry → Option Nat
  | [] => none
  | e :: _ => if pages.nat (8 * e.page + 7) = 0 then none else some (min (pages.nat (8 * e.page + 7)) 60)

/-- The state with a seat's page stack replaced and the timeout that goes with it. -/
def State.leaves (s : State) (seat : Side) (stack : List PageEntry) : State :=
  { s with menus := s.menus.set seat { s.menus.get seat with stack := stack, timeout := timeoutOf s.tables.pages stack } }

/-- The words of a parcel whose check word is correct (R1, R5). -/
def parcelWords (w0 w1 w2 : Word) (payload : List Word) : List Word :=
  w0 :: w1 :: w2 :: (payload ++ [checkWord (w0 :: w1 :: w2 :: payload)])

/-- The header fields of Table 1-2. -/
def kindField (w0 : Word) : Nat := (w0.extractLsb' 12 4).toNat
def stationField (w0 : Word) : Nat := (w0.extractLsb' 8 4).toNat
def progField (w0 : Word) : Prog := fin4 (w0.extractLsb' 6 2)
def tagField (w0 : Word) : Tag := fin4 (w0.extractLsb' 4 2)
def countField (w1 : Word) : Nat := (w1.extractLsb' 0 11).toNat
def lineField (w2 : Word) : Nat := (w2.extractLsb' 0 10).toNat

/-- A kind code and a payload word count that Tables 1-1 and 1-3 allow downstream. -/
def downstreamLegal (kind n : Nat) : Prop :=
  (kind = 0 ∧ n = 0) ∨ (kind = 1 ∧ 2 ≤ n ∧ n ≤ 1920 ∧ n % 3 ≠ 1) ∨ (kind = 2 ∧ n = 2) ∨
  (kind = 3 ∧ 2 ≤ n ∧ n ≤ 128 ∧ n % 2 = 0) ∨ (kind = 4 ∧ 1 ≤ n ∧ n ≤ 48)

/-- A STATS counter as it stands. -/
def State.counter (s : State) (i : Nat) : Nat := s.tables.stats.nat i

/-- Of the five counters of a display's store (MALFORMED, LATE, OVERFLOW, SKIPPED and UNUSED, 0 to 4), only the one named
has risen by 1 since `s`, or none (R23, Table 2-3). -/
def State.countsIn (t s : State) (d : Side) (k : Option Nat) : Prop :=
  ∀ j, j < 5 → t.counter (cntMalformed d + j) =
    if k = some j then min (s.counter (cntMalformed d + j) + 1) 65535 else s.counter (cntMalformed d + j)

end Sys2Proof.Machine
end

