-- ==== Sys2Proof/WellFormed.lean ====
section
/-! DEFINITION. Which commands carry what their row says they carry. A command's operands are inputs from outside; exec
gives every command an effect, and a well-formed one is what the spec's event can hand over. -/

namespace Sys2Proof

open Machine

/-- The words pass the five tests of R6 as a parcel of a kind. -/
def parcelOfKind (k : DownKind) (words : List Word) : Bool :=
  match classify words with
  | .valid p => decide (p.kind = k)
  | _ => false

/-- The words fail one of the five tests of R6. -/
def parcelFails (words : List Word) : Bool :=
  match classify words with
  | .valid _ => false
  | _ => true

/-- Whether a run of pin samples ends in a change of a debounced level, to high or to low (R99). -/
def endsSteady (samples : List Bool) : Bool := endsAt samples true || endsAt samples false

/-- The check on a command's operands. -/
def Instr.wellFormed : Instr → Bool
  | .powerOnReset => true
  | .pinReset => true
  | .resetRelease _ _ => true
  | .fullRestart => true
  | .mediaRestart => true
  | .discardedParcel words => parcelFails words
  | .fill words => parcelOfKind .fill words
  | .pictureLine words => parcelOfKind .pictureLine words
  | .pictureMark words => parcelOfKind .pictureMark words
  | .sound words => parcelOfKind .sound words
  | .request words => parcelOfKind .request words
  | .silenceTimerExpiry => true
  | .parcelEnd => true
  | .replyHandoff => true
  | .point => true
  | .put => true
  | .get => true
  | .commit => true
  | .start => true
  | .restart => true
  | .vehicle => true
  | .view => true
  | .hold => true
  | .release => true
  | .key => true
  | .openPage => true
  | .chime => true
  | .stopChime => true
  | .resume => true
  | .displayFrameStart _ => true
  | .windowTop _ => true
  | .activeRow _ => true
  | .windowBottom _ => true
  | .filterSample _ _ _ => true
  | .frameSync _ => true
  | .lineSync _ => true
  | .syncWatchExpiry => true
  | .freeRunExpiry => true
  | .cameraRow pixels => decide (pixels.length ≤ 4095)
  | .fillRow => true
  | .generatedRow => true
  | .rowDrawn => true
  | .reverseLevelChange samples => endsSteady samples
  | .calLevelChange samples => endsSteady samples
  | .lingerExpiry => true
  | .press _ _ samples => endsAt samples false
  | .keyRelease _ _ samples => endsAt samples true
  | .repeatTimerExpiry _ k => keyRepeats k
  | .timeoutExpiry _ => true
  | .bannerExpiry _ => true
  | .sampleTick => true
  | .voiceNaturalEnd => true
  | .releaseEnd => true
  | .cabinTimeTick => true
  | .unknownRequestName => true

end Sys2Proof
end

