-- ==== Sys2Proof/Certificates/Slice0/Obligations.lean ====
section
/-! DEFINITION. The statements for the provers. Each docstring names the rules of spec/ a statement rests on; a clause
that rests on a choice of the model says so and names the log entry. -/

section Statements

open Sys2Proof Sys2Proof.Machine

/-! The queue of commands and the resets -/

/-- A step carries out the command at the front of the queue on the part with the queue's rest; an empty queue idles
(log 2). -/
def Obligations.StepRunsFrontCommand : Prop :=
  (∀ (s : State) (c : Instr) (rest : List Instr), s.pending = c :: rest →
    step s = exec c { s with pending := rest }) ∧
  ∀ s : State, s.pending = [] → step s = .next s

/-- A power-on reset and a pin reset put every block at its reset value, with nothing sent and no timer running; while one
holds the part, only the reset commands act (R28, log 10). The release samples the straps, sets the cause, begins FILL and
starts the free-run timer; a full restart that is due takes the same values and keeps the straps, the parcel under way and
the outlets' last frames. Straps and cause under reset: log 23; the last frames: log 15. A full restart that is not due
changes nothing (log 3). -/
def Obligations.ResetsLoadResetValues : Prop :=
  ((∀ s : State, exec .powerOnReset s = .next (State.blank (some .power) s.link.strap s.rear.autocam s.unit.cause [] none
      ⟨Stereo.silence, Stereo.silence, Stereo.silence⟩ s.pending)) ∧
  (∀ s : State, exec .pinReset s = .next (State.blank (some .pin) s.link.strap s.rear.autocam s.unit.cause [] none
      ⟨Stereo.silence, Stereo.silence, Stereo.silence⟩ s.pending)) ∧
  (∀ (s : State) (stn : BitVec 4) (autocam : Bool), s.held = some .power →
    exec (.resetRelease stn autocam) s = .next (State.blank none stn autocam .power (fillParcel stn) (some 33367)
      ⟨Stereo.silence, Stereo.silence, Stereo.silence⟩ s.pending)) ∧
  (∀ (s : State) (stn : BitVec 4) (autocam : Bool), s.held = some .pin →
    exec (.resetRelease stn autocam) s = .next (State.blank none stn autocam .pin (fillParcel stn) (some 33367)
      ⟨Stereo.silence, Stereo.silence, Stereo.silence⟩ s.pending)) ∧
  (∀ s : State, s.held = none → s.unit.status = .restarting .full true →
    exec .fullRestart s = .next (State.blank none s.link.strap s.rear.autocam .full s.link.sending (some 33367)
      ⟨s.outlets.zoneA.out, s.outlets.zoneB.out, s.outlets.cabin.out⟩ s.pending)) ∧
  ∀ s : State, s.held = none → s.unit.status ≠ .restarting .full true → exec .fullRestart s = .next s) ∧
  ∀ (s : State) (c : Instr), s.held ≠ none → c ≠ .powerOnReset → c ≠ .pinReset →
    (∀ stn autocam, c ≠ .resetRelease stn autocam) → exec c s = .next s

/-- The values that R28 and the reset tables of the chapters give, block by block, for every reset but a media restart: the
link and the Request Unit, notices, tables (R34), format records (R43), readers (R49), displays, the Steering Counter, the
camera path (R91, R92), the debounced pins (R99), the view and its flags (R102, R103), guide, menus, rings, outlets and
chimes. The tags, the levels and counts the spec leaves open until their first use are log 24's and are not stated.
State.reset is the part after the release of a power-on reset with the straps at 0 (the straps: log 1). -/
def Obligations.ResetValues : Prop :=
  (∀ (held : Option ResetKind) (strap : BitVec 4) (autocam : Bool) (cause : ResetCause) (sending : List Word)
      (freeRun : Option Nat) (outs : PerOutlet Stereo) (pending : List Instr),
    let t := State.blank held strap autocam cause sending freeRun outs pending
    (t.held = held ∧ t.pending = pending ∧ t.link.strap = strap ∧ t.link.sending = sending) ∧
    (t.link.up = false ∧ t.link.silence = false ∧ t.link.seen = false ∧ t.link.slot = none) ∧
    (t.unit.queue = [] ∧ t.unit.status = .ready ∧ t.unit.pointer = ⟨.ident, 0⟩ ∧ t.unit.service = .cameraOnly ∧
      t.unit.cause = cause) ∧
    (t.notices.records = [] ∧ t.notices.time = 0) ∧
    (∀ i, t.tables.raster.read i = 0 ∧ t.tables.composeA.staging.read i = 0 ∧ t.tables.composeA.active.read i = 0 ∧
      t.tables.composeB.staging.read i = 0 ∧ t.tables.composeB.active.read i = 0 ∧ t.tables.pages.read i = 0 ∧
      t.tables.items.read i = 0 ∧ t.tables.tiles.read i = 0 ∧ t.tables.palettes.read i = 0 ∧
      t.tables.chimes.read i = 0 ∧ t.tables.waves.read i = 0 ∧ t.tables.stats.read i = 0) ∧
    (t.tables.camera.state = .idle ∧ t.tables.composeA.state = .idle ∧ t.tables.composeB.state = .idle) ∧
    ((∀ i, i < 5 → t.tables.route.nat i = 15) ∧ (∀ i, i < 9 → t.tables.control.nat i = 1) ∧
      t.tables.control.nat 9 = 2 ∧ t.tables.control.nat 10 = 0 ∧ t.tables.control.nat 11 = 4 ∧
      t.tables.control.nat 12 = 255 ∧ (∀ i, i ≤ 20 → t.tables.mixer.nat i = 1638 * i) ∧
      (List.range 8).map (fun i => t.tables.control.nat (13 + i)) = [0, 0, 255, 255, 255, 0, 0, 0] ∧
      (List.range 14).map (fun i => t.tables.mixer.nat (21 + i)) =
        [10, 10, 10, 32768, 32768, 32768, 16384, 32768, 32768, 8192, 64, 512, 32, 256] ∧
      (∀ i, 20 < i → t.tables.control.read i = 0) ∧ (∀ i, 4 < i → t.tables.route.read i = 0) ∧
      (∀ i, 34 < i → t.tables.mixer.read i = 0) ∧
      (t.tables.steering.nat 0, t.tables.steering.nat 1, t.tables.steering.nat 2, t.tables.steering.nat 3,
        t.tables.steering.int 4, t.tables.steering.nat 5) = (1, 0, 4, 4095, 0, 2)) ∧
    (let bank := t.tables.camera.active
     t.tables.camera.staging = bank ∧
     (List.range 8).map bank.nat = [1650, 750, 260, 25, 1280, 720, 1500, 33367] ∧
     (List.range 9).map (fun i => bank.nat (35 + i)) = [464, 704, 2, 12, 4, 60, 120, 180, 4] ∧
     bank.int 54 = -4095 ∧ bank.int 55 = 4095 ∧
     (∀ i, 8 ≤ i → (i < 35 ∨ 43 < i) → i ≠ 54 → i ≠ 55 → bank.read i = 0) ∧
     ∀ i, i ≤ 28 → t.camera.latched.read i = bank.read i) ∧
    ((∀ p, t.formats.get p = ⟨0, 0, none⟩) ∧ t.mirror = ⟨none, 0⟩) ∧
    (∀ d,
      let r := (t.disp.get d).reader
      r.openTag = 0 ∧ r.nextLine = 0 ∧ r.misses = 0 ∧ r.lastRow = none ∧ r.resume = false) ∧
    (∀ d k, (t.disp.get d).banner = none ∧ (t.menus.get d).keys.get k = ⟨false, 0⟩ ∧
      (t.menus.get d).repeats.get k = none) ∧
    (t.rear.requested = .none ∧ t.rear.inband = false ∧ t.rear.linger = none ∧ t.rear.camFlag = none ∧
      t.rear.camTag = 0 ∧ t.rear.reversePin = ⟨false, 0⟩ ∧ t.rear.calPin = ⟨false, 0⟩) ∧
    (t.steer.fresh = true ∧ t.camera.synced = false ∧ t.camera.measured = none ∧ t.camera.frame = none ∧
      (t.outlets.zoneA.out, t.outlets.zoneB.out, t.outlets.cabin.out) = (outs.zoneA, outs.zoneB, outs.cabin)) ∧
    (∀ d, (t.disp.get d).store = [] ∧ (t.disp.get d).reader.picture = .noSource ∧ (t.disp.get d).reader.route = none ∧
      (t.disp.get d).reader.phase = .after ∧ (t.disp.get d).comp = none ∧ (t.disp.get d).menu = none ∧
      (t.disp.get d).raster = none ∧ (t.menus.get d).stack = [] ∧ (t.menus.get d).timeout = none ∧
      (t.menus.get d).banner = none) ∧
    (t.steer.state = .unreferenced ∧ t.steer.count = 0 ∧ t.steer.limitFlag = false ∧ t.steer.faults = 0 ∧
      t.steer.capCount = 0 ∧ t.steer.capState = .unreferenced ∧ t.steer.lastDir = none) ∧
    (t.camera.state = .noSignal ∧ t.camera.good = 0 ∧ t.camera.bad = 0 ∧ t.camera.watch = none ∧
      t.camera.freeRun = freeRun ∧ t.camera.buffer = [] ∧ activeWidth t.camera.latched = 1280 ∧
      activeHeight t.camera.latched = 720) ∧
    (t.guide.records = [] ∧ t.guide.hold = .free ∧ t.holdCause = false ∧ t.rear.reverse = .off ∧
      t.rear.actual = .none ∧ t.rear.bankLoaded = false ∧ t.rear.autocam = autocam ∧ t.rear.queue = []) ∧
    (∀ p, (t.rings.get p).state = .unrouted ∧ (t.rings.get p).frames = []) ∧
    (∀ o, (t.outlets.get o).current = none ∧ (t.outlets.get o).pending = none ∧ (t.outlets.get o).gain = 0 ∧
      (t.outlets.get o).duck = 32768) ∧
    (t.chimes.numbers = [] ∧ t.chimes.level = 0)) ∧
  State.reset = State.blank none 0 false .power (fillParcel 0) (some 33367)
    ⟨Stereo.silence, Stereo.silence, Stereo.silence⟩ []

/-- A media restart that is due returns the part to CAMERA_ONLY, stops the media side and completes the COMPOSE groups; it
leaves the link, the request queue and window pointer, every other table, cabin time, the steering counter, the camera
path, the overlay hold and the rear view as they were (R27, R37, R59, R76, R139, R140, R146, R162). A swap it completes
offers GROUP with IDLE, and a display that was not in NO_SOURCE offers PICTURE with NO_SOURCE; their order is log 12, the
outlets' last frames log 15. One that is not due changes nothing (log 3). -/
def Obligations.MediaRestartStopsMediaSide : Prop :=
  (∀ s : State, s.held = none → s.unit.status = .restarting .media true →
    ∃ t, exec .mediaRestart s = .next t ∧
      t.unit = { s.unit with service := .cameraOnly, cause := .media, status := .ready } ∧
      (t.held = none ∧ t.link = s.link ∧ t.steer = s.steer ∧ t.camera = s.camera ∧ t.guide = s.guide ∧
        t.rear = s.rear ∧ t.pending = s.pending ∧ t.notices.time = s.notices.time) ∧
      t.tables = { s.tables with
        composeA := (if s.tables.composeA.state = .swapPending
          then ⟨s.tables.composeA.staging, s.tables.composeA.staging, .idle⟩
          else if s.tables.composeA.state = .copying
          then ⟨s.tables.composeA.active, s.tables.composeA.active, .idle⟩ else s.tables.composeA)
        composeB := (if s.tables.composeB.state = .swapPending
          then ⟨s.tables.composeB.staging, s.tables.composeB.staging, .idle⟩
          else if s.tables.composeB.state = .copying
          then ⟨s.tables.composeB.active, s.tables.composeB.active, .idle⟩ else s.tables.composeB) } ∧
      t.formats = clearFormats ∧ t.disp = ⟨stoppedDisplay, stoppedDisplay⟩ ∧ t.mirror = ⟨none, 0⟩ ∧
      (∀ d, t.menus.get d = { s.menus.get d with
        stack := [], timeout := none, banner := none, repeats := PerKey.all none }) ∧
      t.rings = emptyRings ∧
      (∀ o, t.outlets.get o = { s.outlets.get o with gain := 0 }) ∧
      t.chimes = { s.chimes with voices := ⟨none, none, none⟩, suspended := [], queue := [] } ∧
      (let n1 := if s.tables.composeA.state = .swapPending then s.offerNotice .group 1 0 else s
       let n2 := if s.tables.composeB.state = .swapPending then n1.offerNotice .group 2 0 else n1
       let n3 := if s.disp.a.reader.picture = .noSource then n2 else n2.offerNotice .picture 0 0
       let n4 := if s.disp.b.reader.picture = .noSource then n3 else n3.offerNotice .picture 1 0
       t.notices = n4.notices)) ∧
  ∀ s : State, s.held = none → s.unit.status ≠ .restarting .media true → exec .mediaRestart s = .next s

/-! The cabin link -/

/-- A parcel that fails R6 counts once, in CHECK_FAIL for its length or check word and in BAD_PARCEL for its header count, kind
or payload count, and changes nothing else. A counter rises by the events counted and stops at 65,535; no other word of STATS
and nothing else changes (R23). -/
def Obligations.FailedParcelCountsOnce : Prop :=
  (∀ s : State, s.held = none →
    (∀ words : List Word, words.length < 4 → exec (.discardedParcel words) s = .next (s.bump 0 1)) ∧
    (∀ (w0 w1 w2 c : Word) (payload : List Word), c ≠ checkWord (w0 :: w1 :: w2 :: payload) →
      exec (.discardedParcel (w0 :: w1 :: w2 :: (payload ++ [c]))) s = .next (s.bump 0 1)) ∧
    (∀ (w0 w1 w2 : Word) (payload : List Word),
      countField w1 ≠ payload.length ∨ ¬ downstreamLegal (kindField w0) payload.length →
      exec (.discardedParcel (parcelWords w0 w1 w2 payload)) s = .next (s.bump 1 1))) ∧
  ∀ (s : State) (i n : Nat), s.tables.stats.wf = true →
    (s.bump i n).counter i = min (s.counter i + n) 65535 ∧
    (∀ j, j ≠ i → (s.bump i n).counter j = s.counter j) ∧
    s.bump i n = { s with tables := { s.tables with stats := (s.bump i n).tables.stats } }

/-- A valid FILL parcel restarts the silence timer and does nothing else while the link is UP; from DOWN it brings the link
UP and sets the link-seen flag, and a recovery offers a LINK notice with source detail 0 and the value UP (R10, R11).
`State.linkAlive` is this effect, which every valid parcel has. In CAMERA_ONLY a valid picture line, picture mark or sound
parcel is discarded and not counted: it only keeps the link alive (R7). -/
def Obligations.ValidParcelKeepsLinkAlive : Prop :=
  ((∀ (s : State) (w0 w1 w2 : Word), s.held = none → kindField w0 = 0 → countField w1 = 0 →
    exec (.fill (parcelWords w0 w1 w2 [])) s = .next s.linkAlive) ∧
  (∀ s : State, s.link.up = true → s.linkAlive = { s with link := { s.link with silence := true } }) ∧
  (∀ s : State, s.link.up = false → s.link.seen = false →
    s.linkAlive = { s with link := { s.link with up := true, silence := true, seen := true } }) ∧
  ∀ s : State, s.link.up = false → s.link.seen = true →
    s.linkAlive = State.offerNotice { s with link := { s.link with up := true, silence := true } } .link 0 1) ∧
  ∀ (s : State) (w0 w1 w2 : Word) (payload : List Word), s.held = none → s.unit.service = .cameraOnly →
    countField w1 = payload.length → downstreamLegal (kindField w0) payload.length →
    (kindField w0 = 1 → exec (.pictureLine (parcelWords w0 w1 w2 payload)) s = .next s.linkAlive) ∧
    (kindField w0 = 2 → exec (.pictureMark (parcelWords w0 w1 w2 payload)) s = .next s.linkAlive) ∧
    (kindField w0 = 3 → exec (.sound (parcelWords w0 w1 w2 payload)) s = .next s.linkAlive)

/-- In MEDIA a picture line is offered to the store of each display whose latched route names its programme and whose
picture state is PLAYING or STALLED, and each store judges its copy by Table 3-1 (R46, R48); a display that receives no
copy, and everything outside the stores, their counters and the link, stays as it was. -/
def Obligations.PictureLineFansOut : Prop :=
  ∀ (s : State) (w0 w1 w2 : Word) (payload : List Word), s.held = none → s.unit.service = .media →
    s.tables.stats.wf = true → kindField w0 = 1 → countField w1 = payload.length →
    downstreamLegal 1 payload.length →
    ∃ t, exec (.pictureLine (parcelWords w0 w1 w2 payload)) s = .next t ∧
      t = { s.linkAlive with disp := t.disp, tables := { s.tables with stats := t.tables.stats } } ∧
      (∀ j, j < 4 ∨ 13 < j → t.counter j = s.counter j) ∧
      ∀ d, let x := s.disp.get d
        let f := s.formats.get (progField w0)
        let tag := tagField w0
        let line := lineField w2
        let pixels := unpackPixels payload
        if ¬ (x.reader.route = some (progField w0) ∧ (x.reader.picture = .playing ∨ x.reader.picture = .stalled)) then
          t.disp.get d = x ∧ t.countsIn s d none
        else if f.height ≤ line ∨ f.width < pixels.length then t.disp.get d = x ∧ t.countsIn s d (some 0)
        else if tag = x.reader.openTag ∧
            (x.reader.phase = .after ∨ x.reader.phase = .inside ∧ line < x.reader.nextLine) then
          t.disp.get d = x ∧ t.countsIn s d (some 1)
        else if ∃ y ∈ x.store, y.tag = tag ∧ y.line = line then
          t.disp.get d = { x with store := x.store.map fun y =>
            if y.tag = tag ∧ y.line = line then { y with pixels := pixels } else y } ∧ t.countsIn s d none
        else if 16 ≤ x.store.length then t.disp.get d = x ∧ t.countsIn s d (some 2)
        else t.disp.get d = { x with store := x.store ++ [⟨tag, line, pixels, false⟩] } ∧ t.countsIn s d none

/-- In MEDIA a picture mark out of range is counted MALFORMED by each display of its programme and changes no record; a
mark in range sets the record, halts the PLAYING and STALLED displays of the programme when the format changes, each with a
PICTURE notice HALTED (display A's first, log 12), and purges the slots of a newly opened tag, counted in UNUSED, from the
stores whose open tag is another (R44, R45, R57). No other counter changes. -/
def Obligations.PictureMarkSetsFormat : Prop :=
  ∀ (s : State) (w0 w1 w2 w h : Word), s.held = none → s.unit.service = .media → s.tables.stats.wf = true →
    kindField w0 = 2 → countField w1 = 2 →
    let p := progField w0
    let tag := tagField w0
    let f := s.formats.get p
    let inRange := 16 ≤ w.toNat ∧ w.toNat ≤ 1280 ∧ 16 ≤ h.toNat ∧ h.toNat ≤ 800
    let halts (d : Side) : Prop := (s.disp.get d).reader.route = some p ∧
      ((s.disp.get d).reader.picture = .playing ∨ (s.disp.get d).reader.picture = .stalled) ∧
      ¬ (f.width = 0 ∧ f.height = 0) ∧ ¬ (f.width = w.toNat ∧ f.height = h.toNat)
    let k := s.linkAlive
    ∃ t, exec (.pictureMark (parcelWords w0 w1 w2 [w, h])) s = .next t ∧
      t = { s.linkAlive with
        formats := t.formats, disp := t.disp, notices := t.notices, tables := { s.tables with stats := t.tables.stats } } ∧
      (∀ q, q ≠ p → t.formats.get q = s.formats.get q) ∧ (∀ j, j < 4 ∨ 13 < j → t.counter j = s.counter j) ∧
      (¬ inRange →
        t.formats = s.formats ∧ t.disp = s.disp ∧ t.notices = s.linkAlive.notices ∧
        ∀ d, t.countsIn s d (if (s.disp.get d).reader.route = some p then some 0 else none)) ∧
      (inRange →
        t.formats.get p = ⟨w.toNat, h.toNat, some tag⟩ ∧
        (¬ halts .a → ¬ halts .b → t.notices = k.notices) ∧
        (halts .a → ¬ halts .b → t.notices = (k.offerNotice .picture 0 3).notices) ∧
        (¬ halts .a → halts .b → t.notices = (k.offerNotice .picture 1 3).notices) ∧
        (halts .a → halts .b → t.notices = ((k.offerNotice .picture 0 3).offerNotice .picture 1 3).notices) ∧
        ∀ d, let x := s.disp.get d
          let purges := x.reader.route = some p ∧ f.lastTag ≠ some tag ∧ x.reader.openTag ≠ tag
          (halts d → t.disp.get d = { x with store := [], reader := { x.reader with picture := .halted } } ∧
            t.countsIn s d none) ∧
          (¬ halts d → purges → t.disp.get d = { x with store := x.store.filter fun y => decide (y.tag ≠ tag) } ∧
            (∀ j, j < 4 → t.counter (cntMalformed d + j) = s.counter (cntMalformed d + j)) ∧
            t.counter (cntUnused d) = min (s.counter (cntUnused d) + x.store.countP fun y => decide (y.tag = tag)) 65535) ∧
          (¬ halts d → ¬ purges → t.disp.get d = x ∧ t.countsIn s d none))

/-- In MEDIA the frames of a sound parcel join the ring of its programme as far as it has room, the frames beyond are
counted in SOUND_OVERFLOW, and a PRIMING programme that reaches 256 frames becomes PLAYING with a SOUND notice; an UNROUTED
programme takes nothing (R142, R144). -/
def Obligations.SoundParcelFillsRing : Prop :=
  ∀ (s : State) (w0 w1 w2 : Word) (payload : List Word), s.held = none → s.unit.service = .media →
    s.tables.stats.wf = true → kindField w0 = 3 → countField w1 = payload.length →
    downstreamLegal 3 payload.length →
    let p := progField w0
    let r := s.rings.get p
    let frames := unpackFrames payload
    let level := min 512 (r.frames.length + frames.length)
    ∃ t, exec (.sound (parcelWords w0 w1 w2 payload)) s = .next t ∧
      t = { s.linkAlive with rings := t.rings, notices := t.notices, tables := { s.tables with stats := t.tables.stats } } ∧
      (∀ q, q ≠ p → t.rings.get q = s.rings.get q) ∧ (∀ j, j ≠ 16 + p.val → t.counter j = s.counter j) ∧
      (r.state = .unrouted → t = s.linkAlive) ∧
      (r.state ≠ .unrouted → r.frames.length ≤ 512 →
        (t.rings.get p).frames = (r.frames ++ frames).take 512 ∧
        t.counter (16 + p.val) = min (s.counter (16 + p.val) + (r.frames.length + frames.length - 512)) 65535 ∧
        (r.state = .priming ∧ 256 ≤ level → (t.rings.get p).state = .playing ∧
          t.notices = (s.linkAlive.offerNotice .sound (BitVec.ofNat 16 p.val) 2).notices) ∧
        (¬ (r.state = .priming ∧ 256 ≤ level) → (t.rings.get p).state = r.state ∧ t.notices = s.linkAlive.notices))

/-- A request parcel is admitted by the station strap as Table 1-6 gives, with its reply wanted mark; the request queue
takes it while it holds fewer than 8 requests, and otherwise it is discarded and counted in DROPPED_REQUESTS (R9, R16). -/
def Obligations.RequestAdmittedByStation : Prop :=
  ∀ (s : State) (w0 w1 w2 : Word) (payload : List Word), s.held = none → kindField w0 = 4 →
    countField w1 = payload.length → downstreamLegal 4 payload.length →
    let strap := s.link.strap.toNat
    let station := stationField w0
    let answer := exec (.request (parcelWords w0 w1 w2 payload)) s
    let request (wanted : Bool) : QueuedRequest := ⟨payload, w2.extractLsb' 0 8, wanted⟩
    (strap = 15 → answer = .next s.linkAlive) ∧
    (strap ≠ 0 → strap ≠ 15 → station ≠ strap → station ≠ 0 → answer = .next s.linkAlive) ∧
    (strap ≠ 15 → (strap = 0 ∨ station = strap) → s.unit.queue.length < 8 →
      answer = .next (s.linkAlive.withQueue (s.unit.queue ++ [request true]))) ∧
    (strap ≠ 0 → strap ≠ 15 → station = 0 → s.unit.queue.length < 8 →
      answer = .next (s.linkAlive.withQueue (s.unit.queue ++ [request false]))) ∧
    (strap ≠ 15 → (strap = 0 ∨ station = strap ∨ station = 0) → 8 ≤ s.unit.queue.length →
      answer = .next (s.linkAlive.bump 3 1))

/-- When the silence timer expires the link becomes DOWN: the queued picture parcels and a waiting reply are discarded and
counted in UP_DISCARDS, with the report of R14 for a RESTART reply; nothing else changes (R10, R12, R14). The report makes
the restart due, and the restart itself is a later step (log 9, where R26 has it take effect at the report). An expiry of a
stopped timer changes nothing (log 3). -/
def Obligations.SilenceTakesLinkDown : Prop :=
  ∀ s : State, s.held = none →
    (s.link.silence = false → exec .silenceTimerExpiry s = .next s) ∧
    (s.link.silence = true → s.tables.stats.wf = true →
      ∃ t, exec .silenceTimerExpiry s = .next t ∧
        t = { s with
          link := { s.link with up := false, silence := false, slot := none }
          rear := { s.rear with queue := [] }
          unit := t.unit
          tables := { s.tables with stats := t.tables.stats } } ∧
        (∀ j, j ≠ 2 → t.counter j = s.counter j) ∧
        t.counter 2 = min (s.counter 2 + s.rear.queue.length + (if s.link.slot.isSome then 1 else 0)) 65535 ∧
        (∀ r k, s.link.slot = some r → r.restart = some k → t.unit = { s.unit with status := .restarting k true }) ∧
        ((∀ r, s.link.slot = some r → r.restart = none) → t.unit = s.unit))

/-- When a parcel ends, the arbiter begins the first waiting of a picture parcel, the reply and a notice, which it takes
out of its place, and FILL otherwise or while the link is not ready; a reply begun is reported (R12 to R15, R42). The report
of a RESTART reply makes the restart due, and the restart itself is a later step (log 9, where R26 has it take effect at
the report). -/
def Obligations.ParcelEndChoosesNext : Prop :=
  ∀ s : State, s.held = none →
    (s.link.up = false → exec .parcelEnd s = .next { s with link := { s.link with sending := fillParcel s.link.strap } }) ∧
    (∀ p rest, s.link.up = true → s.rear.queue = p :: rest →
      exec .parcelEnd s = .next { s with
        rear := { s.rear with queue := rest }
        link := { s.link with sending := pictureParcel s.link.strap p } }) ∧
    (∀ r, s.link.up = true → s.rear.queue = [] → s.link.slot = some r →
      exec .parcelEnd s = .next { s with
        link := { s.link with slot := none, sending := replyParcel s.link.strap r }
        unit := (match r.restart with
          | none => s.unit
          | some k => { s.unit with status := .restarting k true }) }) ∧
    (∀ n rest, s.link.up = true → s.rear.queue = [] → s.link.slot = none → s.notices.records = n :: rest →
      exec .parcelEnd s = .next { s with
        notices := { s.notices with records := rest }
        link := { s.link with sending := noticeParcel s.link.strap n } }) ∧
    (s.link.up = true → s.rear.queue = [] → s.link.slot = none → s.notices.records = [] →
      exec .parcelEnd s = .next { s with link := { s.link with sending := fillParcel s.link.strap } })

/-- Every parcel the part sends is whole: it has at least 4 words, its check word is correct, its count field is its payload
word count, and it carries the strap value, its kind and its fields (R2, R5, R8, R13). Its payload word count is legal by
Table 1-3: 0 for FILL, 2 for a mark, 5 for a notice, 1 to 33 for a reply, and for a line of 1 to 1,280 pixels the packed
count, which R3 never rejects. Test 4 of R6 is the downstream receiver's; REPLY and NOTICE travel upstream only. -/
def Obligations.SentParcelsAreWhole : Prop :=
  (∀ strap : BitVec 4, ∃ w0 w1 w2, fillParcel strap = parcelWords w0 w1 w2 [] ∧ kindField w0 = 0 ∧
    stationField w0 = strap.toNat ∧ countField w1 = 0 ∧ w2 = 0) ∧
  (∀ (strap : BitVec 4) (r : Reply), r.data.length ≤ 32 → ∃ w0 w1 w2 code,
    replyParcel strap r = parcelWords w0 w1 w2 (code :: r.data) ∧ kindField w0 = 9 ∧ stationField w0 = strap.toNat ∧
    countField w1 = 1 + r.data.length ∧ w2 = r.tag.setWidth 16 ∧ code.toNat = r.code.toNat) ∧
  (∀ (strap : BitVec 4) (n : Notice), ∃ w0 w1 w2 kind hi lo,
    noticeParcel strap n = parcelWords w0 w1 w2 [kind, n.detail, n.value, hi, lo] ∧ kindField w0 = 10 ∧
    stationField w0 = strap.toNat ∧ countField w1 = 5 ∧ w2 = 0 ∧ kind.toNat = n.kind.code ∧ hi ++ lo = n.time) ∧
  (∀ (strap : BitVec 4) (src : PictureSource) (tag : Tag) (w h : Nat), w ≤ 1280 → h ≤ 800 → ∃ w0 w1 w2 x y,
    pictureParcel strap (.mark src tag w h) = parcelWords w0 w1 w2 [x, y] ∧ kindField w0 = 2 ∧
    stationField w0 = strap.toNat ∧ (progField w0).val = src.code ∧ tagField w0 = tag ∧ countField w1 = 2 ∧ w2 = 0 ∧
    x.toNat = w ∧ y.toNat = h ∧ downstreamLegal (kindField w0) 2) ∧
  ∀ (strap : BitVec 4) (src : PictureSource) (tag : Tag) (n : Nat) (px : List Rgb), n < 1024 → px.length ≤ 1280 →
    ∃ w0 w1 w2, pictureParcel strap (.line src tag n px) = parcelWords w0 w1 w2 (packPixels px) ∧ kindField w0 = 1 ∧
    stationField w0 = strap.toNat ∧ (progField w0).val = src.code ∧ tagField w0 = tag ∧
    countField w1 = (packPixels px).length ∧ lineField w2 = n ∧ unpackPixels (packPixels px) = px ∧
    (packPixels px).length = (3 * px.length + 1) / 2 ∧
    (1 ≤ px.length → downstreamLegal (kindField w0) (packPixels px).length)

/-- A finished reply that is not wanted is dropped, and a RESTART is then due at once; a wanted one goes to the empty reply
slot, is discarded and counted while the link is DOWN, or is kept while the slot is full, until REPLY_HANDOFF hands it to
the emptied slot; after the hand-off the unit is READY, or RESTARTING until the report (R12, R14, R17, R26). A due restart
is carried out by a later step (log 9, where R26 has it take effect at once or at the report). REPLY_HANDOFF without a kept
reply, or with a full slot, changes nothing (log 3). -/
def Obligations.ReplyDelivery : Prop :=
  (∀ (s : State) (r : QueuedRequest) (code : ReplyCode) (data : List Word) (k : Option RestartKind),
    let reply : Reply := ⟨r.tag, code, data, k⟩
    (r.wanted = false → k = none → s.finish r code data k = s) ∧
    (∀ j, r.wanted = false → k = some j →
      s.finish r code data k = { s with unit := { s.unit with status := .restarting j true } }) ∧
    (r.wanted = true → s.link.slot ≠ none →
      s.finish r code data k = { s with unit := { s.unit with status := .holding reply } }) ∧
    (r.wanted = true → s.link.slot = none → s.finish r code data k = s.handOff reply)) ∧
  (∀ (s : State) (r : Reply), s.link.up = true →
    s.handOff r = { s with
      link := { s.link with slot := some r }
      unit := { s.unit with status := (match r.restart with
        | none => .ready
        | some k => .restarting k false) } }) ∧
  (∀ (s : State) (r : Reply), s.link.up = false →
    s.handOff r = { s.bump 2 1 with unit := { s.unit with status := (match r.restart with
      | none => .ready
      | some k => .restarting k true) } }) ∧
  (∀ (s : State) (r : Reply), s.held = none → s.unit.status = .holding r → s.link.slot = none →
    exec .replyHandoff s = .next (s.handOff r)) ∧
  ∀ s : State, s.held = none → (s.link.slot ≠ none ∨ ∀ r, s.unit.status ≠ .holding r) → exec .replyHandoff s = .next s

/-! Requests -/

/-- R18: the first of its tests to fail decides the code of the reply, and a refused request does nothing else. A request
that passes them is `taken`. A request command that does not name the oldest request, or comes while the unit is not READY
or has no request, changes nothing (log 4). -/
def Obligations.RefusedRequestOnlyReplies : Prop :=
  (∀ r : QueuedRequest, r.name = none ↔ (r.payload.headD 0).toNat = 0 ∨ 15 < (r.payload.headD 0).toNat) ∧
  (∀ (s : State) (r : QueuedRequest) (q : List QueuedRequest) (n : RequestName), s.about r q →
    let refused (code : ReplyCode) : Result := .next ((s.withQueue q).finish r code [] none)
    let words := match n with
      | .point | .key | .openPage => 3
      | .put => 2 + r.arg 0
      | .start | .hold | .release => 1
      | _ => 2
    let allowed := ¬ ((n = .key ∨ n = .openPage ∨ n = .resume) ∧ s.unit.service = .cameraOnly) ∧
      ¬ (n = .start ∧ s.unit.service = .media)
    let inRange := match n with
      | .put | .get => 1 ≤ r.arg 0 ∧ r.arg 0 ≤ 32
      | .commit | .view => r.arg 0 ≤ 2
      | .restart | .vehicle | .resume | .openPage => r.arg 0 ≤ 1
      | .key => r.arg 0 ≤ 1 ∧ r.arg 1 ≤ 6
      | .stopChime => r.arg 0 ≤ 31
      | _ => True
    (r.name = none → exec .unknownRequestName s = refused .unknown) ∧
    (r.name = some n → r.payload.length ≠ words → exec n.command s = refused .length) ∧
    (r.name = some n → r.payload.length = words → ¬ allowed → exec n.command s = refused .state) ∧
    (r.name = some n → r.payload.length = words → allowed → ¬ inRange → exec n.command s = refused .value) ∧
    (r.name = some n → r.payload.length = words → allowed → inRange → s.takes n r q) ∧
    (r.name ≠ some n → exec n.command s = .next s) ∧
    (r.name ≠ none → exec .unknownRequestName s = .next s)) ∧
  ∀ (s : State) (n : RequestName), s.held = none → (s.unit.status ≠ .ready ∨ s.unit.queue = []) →
    exec n.command s = .next s ∧ exec .unknownRequestName s = .next s

/-- POINT sets the window pointer to a table id 0 to 18 and an index inside that table, and answers TABLE or INDEX otherwise
(R19). GET returns the words from the pointer to the smaller of n words and the end of the table, read at one moment, moves
the pointer past them, and answers PENDING for the staging bank of a group that is not IDLE (R22). The words that report the
part's own condition read as Tables 2-5 and 5-1 give (R33, R88). -/
def Obligations.PointAndGet : Prop :=
  ((∀ (s : State) (r : QueuedRequest) (q : List QueuedRequest), s.takes .point r q →
    let reply (code : ReplyCode) : Result := .next ((s.withQueue q).finish r code [] none)
    (18 < r.arg 0 → exec .point s = reply .table) ∧
    ∀ t, tableOfId (r.arg 0) = some t →
      (tableSize t ≤ r.arg 1 → exec .point s = reply .index) ∧
      (r.arg 1 < tableSize t → exec .point s = .next
        (State.finish { s with unit := { s.unit with queue := q, pointer := ⟨t, r.arg 1⟩ } } r .done [] none))) ∧
  ∀ (s : State) (r : QueuedRequest) (q : List QueuedRequest), s.takes .get r q →
    let t := s.unit.pointer.table
    let i := s.unit.pointer.index
    let n := min (r.arg 0) (tableSize t - i)
    ((∃ g, stagingOf t = some g ∧ (s.tables.group g).state ≠ .idle) →
      exec .get s = .next ((s.withQueue q).finish r .pending [] none)) ∧
    ((∀ g, stagingOf t = some g → (s.tables.group g).state = .idle) →
      exec .get s = .next (State.finish { s with unit := { s.unit with queue := q, pointer := ⟨t, i + n⟩ } } r
        (if n = r.arg 0 then .done else .index) ((List.range n).map fun k => s.readWord t (i + k)) none))) ∧
  ∀ s : State,
    (s.readWord .ident 0 = 0x2640 ∧ s.readWord .ident 1 = 0x0201 ∧ (s.readWord .ident 2).toNat = s.link.strap.toNat ∧
      (s.readWord .ident 3 = 1 ↔ s.rear.autocam = true) ∧
      (s.readWord .ident 5 ++ s.readWord .ident 6 : BitVec 32) = s.notices.time ∧
      (s.readWord .ident 7 = 1 ↔ s.unit.service = .media) ∧ (s.readWord .ident 8 = 1 ↔ s.rear.bankLoaded = true) ∧
      ∀ i, 9 ≤ i → s.readWord .ident i = 0) ∧
    (s.readWord .ident 4).toNat = (match s.unit.cause with
      | .none => 0
      | .power => 1
      | .pin => 2
      | .full => 3
      | .media => 4) ∧
    (s.readWord .steering 6 = s.steer.state.code ∧
      (-4095 ≤ s.steer.count → s.steer.count ≤ 4095 → (s.readWord .steering 7).toInt = s.steer.count) ∧
      (s.readWord .steering 8 = 1 ↔ s.steer.limitFlag = true) ∧
      (s.steer.faults ≤ 65535 → (s.readWord .steering 9).toNat = s.steer.faults) ∧
      (-4095 ≤ s.steer.capCount → s.steer.capCount ≤ 4095 → (s.readWord .steering 10).toInt = s.steer.capCount) ∧
      s.readWord .steering 11 = s.steer.capState.code ∧ (∀ i, 12 ≤ i → s.readWord .steering i = 0) ∧
      ∀ i, i < 6 → s.readWord .steering i = s.tables.steering.read i) ∧
    ∀ i, s.readWord .control i = s.tables.control.read i ∧ s.readWord .route i = s.tables.route.read i ∧
      s.readWord .composeA i = s.tables.composeA.staging.read i ∧
      s.readWord .composeAActive i = s.tables.composeA.active.read i ∧
      s.readWord .composeB i = s.tables.composeB.staging.read i ∧
      s.readWord .composeBActive i = s.tables.composeB.active.read i ∧
      s.readWord .camera i = s.tables.camera.staging.read i ∧
      s.readWord .cameraActive i = s.tables.camera.active.read i

/-- The tests of a PUT in the order of R20, each with its reply; a PUT that fails one writes nothing and leaves the window
pointer. `x` is the part with the request taken; for CHIMES and WAVES the ends of voices that are due come first (log 8),
which decides IN_USE. The words that may be written, the legal values of the checked words (Tables 2-2, 2-4, 5-1 and 9-2, R32,
R77) and the words that are IN_USE (R21) are spelled out: those of RASTER in MEDIA, an entry of CHIMES whose chime is on a
voice, suspended or queued, and a word of WAVES in the span of a chime on a voice or suspended. -/
def Obligations.PutTestsRunInOrder : Prop :=
  (∀ (s : State) (r : QueuedRequest) (q : List QueuedRequest), s.takes .put r q →
    let t := s.unit.pointer.table
    let i := s.unit.pointer.index
    let run := (r.payload.drop 2).take (tableSize t - i)
    let x := (s.withQueue q).readyFor t
    let refused (code : ReplyCode) (data : List Word) : Result := .next (x.finish r code data none)
    let unwritable := ∃ k, k < run.length ∧ wordWritable t (i + k) = false
    let locked := t = .cameraActive ∧ ¬ (s.guide.hold = .held ∧ s.guide.holdRequest = true)
    let busy := ∃ g, stagingOf t = some g ∧ (s.tables.group g).state ≠ .idle
    let inUse := ∃ k, k < run.length ∧ x.wordInUse t (i + k) = true
    let legal (k : Nat) := wordLegal t (i + k) (run.getD k 0) = true
    (t ≠ .chimes → t ≠ .waves → x = s.withQueue q) ∧
    (unwritable → exec .put s = refused .table []) ∧
    (run ≠ [] → ¬ unwritable → locked → exec .put s = refused .state []) ∧
    (run ≠ [] → ¬ unwritable → ¬ locked → busy → exec .put s = refused .pending []) ∧
    (¬ unwritable → ¬ locked → ¬ busy → inUse → exec .put s = refused .inUse []) ∧
    (∀ k, k < run.length → ¬ unwritable → ¬ locked → ¬ busy → ¬ inUse → ¬ legal k → (∀ j, j < k → legal j) →
      exec .put s = refused .value [BitVec.ofNat 16 (i + k)]) ∧
    (run = [] ∨ ¬ unwritable ∧ ¬ locked ∧ ¬ busy ∧ ¬ inUse ∧ (∀ k, k < run.length → legal k) →
      x.putRefusal t i run = none)) ∧
  (∀ (t : TableId) (i : Nat), wordWritable t i = true ↔ match t with
    | .ident => i = 4
    | .control => i ≤ 20
    | .route => i ≤ 4
    | .steering => i ≤ 5 ∨ i = 8
    | .composeAActive | .composeBActive => False
    | _ => True) ∧
  (∀ (t : TableId) (i : Nat) (w : Word), wordLegal t i w = true ↔ match t with
    | .ident => w = 0
    | .control => (i ≤ 8 ∨ i = 18 → w.toNat ≤ 1) ∧ (i = 9 → w.toNat ≤ 2) ∧ (i = 10 → w.toNat ≤ 10000) ∧
      (i = 11 → w.toNat ≤ 8)
    | .route => w.toNat ≤ 3 ∨ w.toNat = 15
    | .steering => (i ≤ 1 → w.toNat ≤ 1) ∧ (i = 2 → w.toNat ≤ 15) ∧ (i = 3 → 1 ≤ w.toNat ∧ w.toNat ≤ 4095) ∧
      (i = 4 → w.toNat ≤ 255 ∨ 0xFF01 ≤ w.toNat) ∧ (i = 5 → w.toNat ≤ 2)
    | .mixer => (i ≤ 20 ∨ 24 ≤ i ∧ i ≤ 30 → w.toNat ≤ 32768) ∧ (21 ≤ i ∧ i ≤ 23 → w.toNat ≤ 20) ∧
      (i = 31 → 1 ≤ w.toNat ∧ w.toNat ≤ 1024) ∧ (32 ≤ i ∧ i ≤ 34 → 1 ≤ w.toNat ∧ w.toNat ≤ 32768)
    | _ => True) ∧
  ∀ (s : State) (i : Nat),
    let c := s.chimes
    let onVoice (n : Nat) : Prop := ∃ v x, c.voices.get v = some x ∧ x.chime = n
    let suspended (n : Nat) : Prop := ∃ x ∈ c.suspended, x.chime = n
    let span (n : Nat) : Nat := s.tables.chimes.nat (8 * n + 1) + s.tables.chimes.nat (8 * n + 2)
    (s.wordInUse .raster i = true ↔ s.unit.service = .media) ∧
    (s.wordInUse .chimes i = true ↔ onVoice (i / 8) ∨ suspended (i / 8) ∨ i / 8 ∈ c.queue) ∧
    (i < 65536 → (s.wordInUse .waves i = true ↔ ∃ n, (onVoice n ∨ suspended n) ∧
      ∃ k, k < span n ∧ i = (s.tables.chimes.nat (8 * n) + k) % 65536)) ∧
    ∀ t, t ≠ .raster → t ≠ .chimes → t ≠ .waves → s.wordInUse t i = false

/-- A PUT whose run passes the tests writes all of it, advances the window pointer past it, and answers DONE, or INDEX with
the number of words written where the table ends first (R20); every word of the run then reads as written, STATS words as
0, and every other word as before (R23); the status words of STEERING after a PUT to STEERING are SteeringSetupWrite's
(R77). A PUT of CONTROL word 9 evaluates the reverse source (R100); one of IDENT word 4 clears the reset cause (R33). For
CHIMES and WAVES the ends of voices that are due come first, in `x` (log 8). -/
def Obligations.PutStoresRun : Prop :=
  ∀ (s : State) (r : QueuedRequest) (q : List QueuedRequest), s.takes .put r q → s.tables.fits = true →
    let t := s.unit.pointer.table
    let i := s.unit.pointer.index
    let ws := r.payload.drop 2
    let run := ws.take (tableSize t - i)
    let x := (s.withQueue q).readyFor t
    x.putRefusal t i run = none →
    ∃ u : State, exec .put s = .next (u.finish r (if run.length = ws.length then .done else .index)
        (if run.length = ws.length then [] else [BitVec.ofNat 16 run.length]) none) ∧
      u.unit.pointer = ⟨t, i + run.length⟩ ∧
      (t ≠ .ident → t ≠ .steering → ¬ (t = .control ∧ i ≤ 9 ∧ 9 < i + run.length) →
        u = { x with tables := u.tables, unit := { x.unit with pointer := ⟨t, i + run.length⟩ } }) ∧
      (t = .control → i ≤ 9 → 9 < i + run.length →
        u = (State.evalReverse { x with tables := { x.tables with control := u.tables.control } }).setPointer t
          (i + run.length)) ∧
      (t = .ident → run ≠ [] → u = { x with unit := { x.unit with cause := .none, pointer := ⟨t, i + run.length⟩ } }) ∧
      ∀ t' j, t' ≠ .steering ∨ t ≠ .steering ∨ j ≤ 5 →
        u.readWord t' j = if t' = t ∧ i ≤ j ∧ j < i + run.length then (if t = .stats then 0 else run.getD (j - i) 0)
          else x.readWord t' j

/-- The effects of a PUT to STEERING (R77, R82, R85, R86): the enable, then the limit, on the Steering Counter, with a
STEER notice where the state changes; word 8 clears the LIMIT flag. -/
def Obligations.SteeringSetupWrite : Prop :=
  ∀ (s : State) (r : QueuedRequest) (q : List QueuedRequest), s.takes .put r q → s.tables.fits = true →
    s.unit.pointer.table = .steering →
    let i := s.unit.pointer.index
    let ws := r.payload.drop 2
    (s.withQueue q).putRefusal .steering i ws = none → ws.length ≤ 16 - i →
    let st := s.steer
    ∃ u : State, exec .put s = .next (u.finish r .done [] none) ∧
      u = { s.withQueue q with
        tables := { s.tables with steering := u.tables.steering }
        steer := u.steer
        notices := u.notices
        unit := { s.unit with queue := q, pointer := ⟨.steering, i + ws.length⟩ } } ∧
      (i = 8 → u.steer = { st with limitFlag := false } ∧ u.notices = s.notices ∧ u.tables = s.tables) ∧
      (i ≤ 5 → ∀ limit : Int, limit = u.tables.steering.nat 3 →
        let written := decide (i = 0)
        let on := decide (u.tables.steering.nat 0 = 1)
        let starts := written && on && decide (st.state = .off)
        let stops := written && !on && decide (st.state ≠ .off)
        let c := if starts then 0 else st.count
        let c' := if limit < c then limit else if c < -limit then -limit else c
        u.steer = { st with
          state := (if starts then .unreferenced else if stops then .off else st.state)
          count := c'
          limitFlag := st.limitFlag || decide (c' ≠ c)
          lastDir := (if starts || stops then none else st.lastDir) } ∧
        u.notices = (if starts || stops then (s.offerNotice .steer 0 u.steer.state.code).notices else s.notices))

/-- The checks of R61, R66, R91 and R110: a raster descriptor, a composition bank, a camera descriptor and a bank's guide
fields pass when every word lies in its range (Tables 4-3, 4-4, 4-5, 6-1, 6-2 and 7-3), and the first failing test names
the word: the tests stand in the order of Tables 4-3, 4-5 (word by word, the own range first), 6-2 and 7-3, each with the
word it names. -/
def Obligations.CheckedBanksHoldLegalWords : Prop :=
  let fails (tests : List (Prop × Nat)) (w : Nat) : Prop :=
    ∃ before p after, tests = before ++ (p, w) :: after ∧ ¬ p ∧ ∀ x ∈ before, x.1
  (∀ (raster : Table) (d : Side) (w : Nat),
    let base := match d with
      | .a => 0
      | .b => 16
    let f (k : Nat) := raster.nat (base + k)
    rasterFailure raster d = some w ↔ fails
      [(f 0 ≤ 3, base), (64 ≤ f 1 ∧ f 1 ≤ 2047, base + 1), (1 ≤ f 2, base + 2), (f 2 < f 3, base + 3),
        (16 ≤ f 4 ∧ f 4 ≤ 1280 ∧ f 4 % 2 = 0, base + 4), (f 3 + f 4 ≤ f 1, base + 4),
        (16 ≤ f 5 ∧ f 5 ≤ 1023, base + 5), (1 ≤ f 6, base + 6), (f 6 < f 7, base + 7),
        (16 ≤ f 8 ∧ f 8 ≤ 800, base + 8), (f 7 + f 8 ≤ f 5, base + 8)] w) ∧
  (∀ (bank : Table) (size : Option (Nat × Nat)) (w : Nat),
    let f := bank.nat
    let fitsX (x : Nat) : Prop := ∀ width height, size = some (width, height) → x ≤ width
    let fitsY (y : Nat) : Prop := ∀ width height, size = some (width, height) → y ≤ height
    composeFailure bank size = some w ↔ fails
      [(f 0 ≤ 63, 0), (f 1 ≤ 1279, 1), (f 2 ≤ 799, 2), (1 ≤ f 3 ∧ f 3 ≤ 1280, 3), (fitsX (f 1 + f 3), 3),
        (1 ≤ f 4 ∧ f 4 ≤ 800, 4), (fitsY (f 2 + f 4), 4), (f 5 = 1 ∨ f 5 = 2, 5), (f 6 ≤ 63, 6), (f 7 ≤ 3, 7),
        (f 8 ≤ 1279, 8), (fitsX (f 8 + 256), 8), (f 9 ≤ 799, 9), (fitsY (f 9 + 192), 9), (f 10 ≤ 1279, 10),
        (fitsX (f 10 + 320), 10), (f 11 ≤ 799, 11), (fitsY (f 11 + 16), 11), (f 12 ≤ 15, 12), (f 13 ≤ 10000, 13)] w) ∧
  (∀ (bank : Table) (w : Nat),
    let f := bank.nat
    descriptorFailure bank = some w ↔ fails
      [(64 ≤ f 0 ∧ f 0 ≤ 4095, 0), (16 ≤ f 1 ∧ f 1 ≤ 2047, 1), (1 ≤ f 2, 2), (1 ≤ f 3, 3),
        (16 ≤ f 4 ∧ f 4 ≤ 1280 ∧ f 4 % 2 = 0, 4), (f 2 + f 4 ≤ f 0, 4), (16 ≤ f 5 ∧ f 5 ≤ 800, 5),
        (f 3 + f 5 ≤ f 1, 5), (f 6 ≤ 2047 ∧ f 6 < f 0, 6), (10000 ≤ f 7 ∧ f 7 ≤ 60000, 7), (f 8 ≤ 63, 8),
        (f 9 ≤ 16, 9), (f 10 + 16 * f 9 ≤ f 4, 10), (f 11 + 16 ≤ f 5, 11), (f 12 ≤ 15, 12)] w) ∧
  (∀ (bank : Table) (height w : Nat),
    let f := bank.nat
    let key (j : Nat) := bank.int (54 + j)
    let position (k : Nat) : Prop × Nat := (-8192 ≤ bank.int k ∧ bank.int k ≤ 8191, k)
    guideFailure bank height = some w ↔ fails
      ([(f 32 ≤ 1, 32), (f 33 ≤ 1, 33), (f 34 ≤ 1, 34), (f 35 < f 36, 35), (f 36 < height, 36),
        ((f 36 - f 35) % 16 = 0, 36), (2 ≤ f 37 ∧ f 37 ≤ 17, 37), (1 ≤ f 38 ∧ f 38 ≤ 64, 38),
        (1 ≤ f 39 ∧ f 39 ≤ f 38, 39), (1 ≤ f 40, 40), (f 40 < f 41, 41), (f 41 < f 42 ∧ f 42 ≤ f 36 - f 35, 42),
        (1 ≤ f 43 ∧ f 43 ≤ 8, 43)] ++
        (List.range (f 37)).map (fun j => (-4095 ≤ key j ∧ key j ≤ 4095 ∧ (j ≠ 0 → key (j - 1) < key j), 54 + j)) ++
        (List.range 18).map (fun k => position (72 + k)) ++
        (List.range (18 * f 37)).map (fun k => position (96 + k))) w) ∧
  (∀ (raster : Table) (d : Side), rasterFailure raster d = none ↔
    let f (k : Nat) := raster.nat ((match d with
      | .a => 0
      | .b => 16) + k)
    f 0 ≤ 3 ∧ 64 ≤ f 1 ∧ f 1 ≤ 2047 ∧ 1 ≤ f 2 ∧ f 2 < f 3 ∧ 16 ≤ f 4 ∧ f 4 ≤ 1280 ∧ f 4 % 2 = 0 ∧ f 3 + f 4 ≤ f 1 ∧
      16 ≤ f 5 ∧ f 5 ≤ 1023 ∧ 1 ≤ f 6 ∧ f 6 < f 7 ∧ 16 ≤ f 8 ∧ f 8 ≤ 800 ∧ f 7 + f 8 ≤ f 5) ∧
  (∀ (bank : Table) (size : Option (Nat × Nat)), composeFailure bank size = none ↔
    let f := bank.nat
    (f 0 ≤ 63 ∧ f 1 ≤ 1279 ∧ f 2 ≤ 799 ∧ 1 ≤ f 3 ∧ f 3 ≤ 1280 ∧ 1 ≤ f 4 ∧ f 4 ≤ 800 ∧ (f 5 = 1 ∨ f 5 = 2) ∧ f 6 ≤ 63 ∧
      f 7 ≤ 3 ∧ f 8 ≤ 1279 ∧ f 9 ≤ 799 ∧ f 10 ≤ 1279 ∧ f 11 ≤ 799 ∧ f 12 ≤ 15 ∧ f 13 ≤ 10000) ∧
    ∀ w h, size = some (w, h) → f 1 + f 3 ≤ w ∧ f 2 + f 4 ≤ h ∧ f 8 + 256 ≤ w ∧ f 9 + 192 ≤ h ∧ f 10 + 320 ≤ w ∧
      f 11 + 16 ≤ h) ∧
  (∀ bank : Table, descriptorFailure bank = none ↔
    let f := bank.nat
    64 ≤ f 0 ∧ f 0 ≤ 4095 ∧ 16 ≤ f 1 ∧ f 1 ≤ 2047 ∧ 1 ≤ f 2 ∧ 1 ≤ f 3 ∧ 16 ≤ f 4 ∧ f 4 ≤ 1280 ∧ f 4 % 2 = 0 ∧
      f 2 + f 4 ≤ f 0 ∧ 16 ≤ f 5 ∧ f 5 ≤ 800 ∧ f 3 + f 5 ≤ f 1 ∧ f 6 ≤ 2047 ∧ f 6 < f 0 ∧ 10000 ≤ f 7 ∧ f 7 ≤ 60000 ∧
      f 8 ≤ 63 ∧ f 9 ≤ 16 ∧ f 10 + 16 * f 9 ≤ f 4 ∧ f 11 + 16 ≤ f 5 ∧ f 12 ≤ 15) ∧
  (∀ (bank : Table) (height : Nat), guideFailure bank height = none ↔
    let f := bank.nat
    let keys := f 37
    (f 32 ≤ 1 ∧ f 33 ≤ 1 ∧ f 34 ≤ 1 ∧ f 35 < f 36 ∧ f 36 < height ∧ (f 36 - f 35) % 16 = 0 ∧ 2 ≤ keys ∧ keys ≤ 17 ∧
      1 ≤ f 38 ∧ f 38 ≤ 64 ∧ 1 ≤ f 39 ∧ f 39 ≤ f 38 ∧ 1 ≤ f 40 ∧ f 40 < f 41 ∧ f 41 < f 42 ∧ f 42 ≤ f 36 - f 35 ∧
      1 ≤ f 43 ∧ f 43 ≤ 8) ∧
    (∀ j, j < keys → -4095 ≤ bank.int (54 + j) ∧ bank.int (54 + j) ≤ 4095 ∧
      (1 ≤ j → bank.int (54 + j - 1) < bank.int (54 + j))) ∧
    (∀ k, k < 18 → -8192 ≤ bank.int (72 + k) ∧ bank.int (72 + k) ≤ 8191) ∧
    ∀ k, k < 18 * keys → -8192 ≤ bank.int (96 + k) ∧ bank.int (96 + k) ≤ 8191) ∧
  ∀ (tests : List (Bool × Nat)) (w : Nat), firstFailing tests = some w ↔
    ∃ before after, tests = before ++ (false, w) :: after ∧ ∀ x ∈ before, x.1 = true

/-- COMMIT answers PENDING in a group that is not IDLE and VALUE with the first word that fails the group's check; a bank
that passes waits for the swap of its running consumer, and with a stopped consumer it is exchanged and copied back at once
with a GROUP notice IDLE (R36, R37). -/
def Obligations.CommitChecksAndExchanges : Prop :=
  ∀ (s : State) (r : QueuedRequest) (q : List QueuedRequest), s.takes .commit r q →
    let g : GroupId := if r.arg 0 = 0 then .camera else if r.arg 0 = 1 then .composeA else .composeB
    let b := s.tables.group g
    let x := s.withQueue q
    let failure := match g with
      | .camera => (descriptorFailure b.staging).or (guideFailure b.staging (b.staging.nat 5))
      | .composeA => composeFailure b.staging (displaySize s.tables.raster .a)
      | .composeB => composeFailure b.staging (displaySize s.tables.raster .b)
    (b.state ≠ .idle → exec .commit s = .next (x.finish r .pending [] none)) ∧
    (∀ w, b.state = .idle → failure = some w → exec .commit s = .next (x.finish r .value [BitVec.ofNat 16 w] none)) ∧
    (b.state = .idle → failure = none → (g = .camera ∨ s.unit.service = .media) →
      exec .commit s = .next ((x.setGroup g { b with state := .swapPending }).finish r .done [] none)) ∧
    (b.state = .idle → failure = none → g ≠ .camera → s.unit.service = .cameraOnly →
      exec .commit s = .next (((x.setGroup g ⟨b.staging, b.staging, .idle⟩).offerNotice .group g.code 0).finish r .done []
        none))

/-- START tests both raster descriptors, then both active composition banks, and names the table and word of the first
failure; a START that passes enters MEDIA (R25). RESTART answers DONE and schedules its restart with its reply; the restart
is a later step, where no reply is wanted too (log 9, where R26 has that one take effect in the request). RESUME
sets a HALTED display's resume flag and is refused with STATE otherwise (R30, R57). -/
def Obligations.StartRestartAndResume : Prop :=
  (∀ (s : State) (r : QueuedRequest) (q : List QueuedRequest), s.takes .start r q →
    let x := s.withQueue q
    let ra := rasterFailure s.tables.raster .a
    let rb := rasterFailure s.tables.raster .b
    let ca := composeFailure s.tables.composeA.active (displaySize s.tables.raster .a)
    let cb := composeFailure s.tables.composeB.active (displaySize s.tables.raster .b)
    let failed (table : Word) (w : Nat) : Result := .next (x.finish r .value [table, BitVec.ofNat 16 w] none)
    (∀ w, ra = some w → exec .start s = failed 2 w) ∧
    (∀ w, ra = none → rb = some w → exec .start s = failed 2 w) ∧
    (∀ w, ra = none → rb = none → ca = some w → exec .start s = failed 16 w) ∧
    (∀ w, ra = none → rb = none → ca = none → cb = some w → exec .start s = failed 17 w) ∧
    (ra = none → rb = none → ca = none → cb = none → exec .start s = .next
      (State.finish { s with unit := { s.unit with queue := q, service := .media } } r .done [] none))) ∧
  (∀ (s : State) (r : QueuedRequest) (q : List QueuedRequest), s.takes .restart r q →
    exec .restart s = .next ((s.withQueue q).finish r .done [] (some (if r.arg 0 = 0 then .media else .full)))) ∧
  ∀ (s : State) (r : QueuedRequest) (q : List QueuedRequest), s.takes .resume r q →
    let d : Side := if r.arg 0 = 0 then .a else .b
    let x := s.disp.get d
    (x.reader.picture ≠ .halted → exec .resume s = .next ((s.withQueue q).finish r .state [] none)) ∧
    (x.reader.picture = .halted → exec .resume s = .next
      (((s.withQueue q).setDisp d { x with reader := { x.reader with resume := true } }).finish r .done [] none))

/-! Reverse, view and hold -/

/-- A debounced pin changes its level at the twentieth sample of the other level and not before (R99): the REVERSE pin then
evaluates the reverse source, which VEHICLE also does after it has set the in-band flag (R29, R100). The reverse state
follows its source (R100), and each change of it sets the admission level and, at an entry to ON from OFF, then requests the
reverse chime (R101); the actual view follows and one REVERSE notice reports both; everything else stays. That a command
carries the pin's samples is log 6. Ends of voices that are due come before a change of level (log 8). LINGER_EXPIRY outside
LINGER, or with the linger timer stopped, changes nothing (log 3). -/
def Obligations.ReverseFollowsSource : Prop :=
  ((∀ (s : State) (x : Bool) (n : Nat), s.held = none → s.rear.reversePin = ⟨!x, 0⟩ → n < 20 →
    exec (.reverseLevelChange (List.replicate n x)) s = .next { s with rear := { s.rear with reversePin := ⟨!x, n⟩ } }) ∧
  (∀ (s : State) (x : Bool), s.held = none → s.rear.reversePin = ⟨!x, 0⟩ →
    exec (.reverseLevelChange (List.replicate 20 x)) s = .next
      (State.evalReverse { s with rear := { s.rear with reversePin := ⟨x, 0⟩ } })) ∧
  (∀ (s : State) (r : QueuedRequest) (q : List QueuedRequest), s.takes .vehicle r q →
    exec .vehicle s = .next (State.finish (State.evalReverse { s.withQueue q with
      rear := { s.rear with inband := decide (r.arg 0 = 1) } }) r .done [] none)) ∧
  ∀ s : State, (s.tables.control.nat 9 = 0 → s.reverseSource = s.rear.reversePin.level) ∧
    (s.tables.control.nat 9 = 1 → s.reverseSource = s.rear.inband) ∧
    (s.tables.control.nat 9 = 2 → s.reverseSource = (s.rear.reversePin.level || s.rear.inband))) ∧
  (∀ s : State,
    let on := s.tables.control.nat 11
    let linger := s.tables.control.nat 10
    let raised := s.chimes.moveLevel s.tables.chimes on
    let lowered := s.chimes.moveLevel s.tables.chimes 0
    let changed (r : ReverseState) (timer : Option Nat) (c : ChimeEngine) : State :=
      { s.changeReverse r timer with chimes := c }
    (s.reverseSource = true → s.rear.reverse = .off →
      s.evalReverse = changed .on none (raised.request s.tables.chimes (s.tables.control.nat 12))) ∧
    (s.reverseSource = true → s.rear.reverse = .linger → s.evalReverse = changed .on none raised) ∧
    (s.reverseSource = false → s.rear.reverse = .on → linger ≠ 0 →
      s.evalReverse = changed .linger (some linger) lowered) ∧
    (s.reverseSource = false → s.rear.reverse = .on → linger = 0 → s.evalReverse = changed .off none lowered) ∧
    (s.reverseSource = true → s.rear.reverse = .on → s.evalReverse = s) ∧
    (s.reverseSource = false → s.rear.reverse ≠ .on → s.evalReverse = s)) ∧
  (∀ s : State, s.held = none → s.rear.reverse = .linger → s.rear.linger ≠ none →
    exec .lingerExpiry s = .next (s.changeReverse .off none)) ∧
  (∀ s : State, s.held = none → (s.rear.reverse ≠ .linger ∨ s.rear.linger = none) →
    exec .lingerExpiry s = .next s) ∧
  ∀ (s : State) (r : ReverseState) (timer : Option Nat),
    let u : State := { s with rear := { s.rear with reverse := r, linger := timer } }
    s.changeReverse r timer = u.followView.offerNotice .reverse 0 (Word.ofBytes r.code u.rear.viewOf.code)

/-- The actual view is NONE while the AUTOCAM strap is 0 and no camera bank is loaded, else CAMERA while the reverse state
is ON or LINGER, else the requested view (R102); a change of it empties the upstream picture queue and clears the camera
frame flag and display A's mirror flag (R74, R103), and one without a change of reverse state offers a REVERSE notice. VIEW
sets the requested view (R29). -/
def Obligations.ViewFollowsInputs : Prop :=
  (∀ v : RearView,
    (v.autocam = false → v.bankLoaded = false → v.viewOf = .none) ∧
    (v.autocam = true ∨ v.bankLoaded = true → v.reverse ≠ .off → v.viewOf = .camera) ∧
    (v.autocam = true ∨ v.bankLoaded = true → v.reverse = .off → v.viewOf = v.requested)) ∧
  (∀ s : State,
    (s.rear.viewOf = s.rear.actual → s.followView = s ∧ s.refreshView = s) ∧
    (s.rear.viewOf ≠ s.rear.actual →
      s.followView = { s with
        rear := { s.rear with actual := s.rear.viewOf, queue := [], camFlag := none }
        mirror := { s.mirror with frame := none } } ∧
      s.refreshView = s.followView.offerNotice .reverse 0 (Word.ofBytes s.rear.reverse.code s.rear.viewOf.code))) ∧
  ∀ (s : State) (r : QueuedRequest) (q : List QueuedRequest), s.takes .view r q →
    exec .view s = .next (State.finish (State.refreshView { s.withQueue q with
      rear := { s.rear with requested := if r.arg 0 = 0 then .none else if r.arg 0 = 1 then .camera else .mirror } })
      r .done [] none)

/-- The overlay hold reacts to its two causes (R105): HOLD and a high debounced CAL level make FREE into HOLD_REQUESTED,
and the last cause to go makes HELD into RELEASE_REQUESTED; the requested states wait for the frame start. RELEASE in FREE
is refused with STATE (R29). The CAL level passes its debouncer at the twentieth sample of the other level and not before
(R99); that a command carries the pin's samples is log 6. -/
def Obligations.HoldFollowsCauses : Prop :=
  (∀ (s : State) (r : QueuedRequest) (q : List QueuedRequest), s.takes .hold r q →
    exec .hold s = .next (State.finish { s.withQueue q with guide := { s.guide with
      holdRequest := true, hold := if s.guide.hold = .free then .holdRequested else s.guide.hold } } r .done [] none)) ∧
  (∀ (s : State) (r : QueuedRequest) (q : List QueuedRequest), s.takes .release r q →
    (s.guide.hold = .free → exec .release s = .next ((s.withQueue q).finish r .state [] none)) ∧
    (s.guide.hold ≠ .free → exec .release s = .next (State.finish { s.withQueue q with guide := { s.guide with
      holdRequest := false
      hold := if s.guide.hold = .held ∧ s.rear.calPin.level = false then .releaseRequested else s.guide.hold } }
      r .done [] none))) ∧
  (∀ (s : State) (x : Bool) (n : Nat), s.held = none → s.rear.calPin = ⟨!x, 0⟩ → n < 20 →
    exec (.calLevelChange (List.replicate n x)) s = .next { s with rear := { s.rear with calPin := ⟨!x, n⟩ } }) ∧
  (∀ s : State, s.held = none → s.rear.calPin = ⟨false, 0⟩ →
    exec (.calLevelChange (List.replicate 20 true)) s = .next { s with
      rear := { s.rear with calPin := ⟨true, 0⟩ }
      guide := { s.guide with hold := if s.guide.hold = .free then .holdRequested else s.guide.hold } }) ∧
  ∀ s : State, s.held = none → s.rear.calPin = ⟨true, 0⟩ →
    exec (.calLevelChange (List.replicate 20 false)) s = .next { s with
      rear := { s.rear with calPin := ⟨false, 0⟩ }
      guide := { s.guide with hold := if s.guide.hold = .free ∧ s.guide.holdRequest = true then .holdRequested
        else if s.guide.hold = .held ∧ s.guide.holdRequest = false then .releaseRequested else s.guide.hold } }

/-! Keys and menus -/

/-- A key pin that reads low is pressed at its twentieth sample (R122); in MEDIA the press reaches the Menu Engine, and a
repeating key's timer starts with 500 ms where CONTROL word 18 is 1; in CAMERA_ONLY the debouncer only follows. Samples of
the other level that came before count, and one of the debounced level sets the run count to 0; that a command carries the
pin's 1 ms samples is log 6. A release stops the timer; an expiry hands another press and restarts it with 150 ms under the
conditions of R123, and stops it otherwise. A press of a KEY request is handled alike and starts no timer (R124). A menu
timeout empties the stack (R132); a banner timer takes the banner away (R73). A timer that does not run does not expire
(log 3). -/
def Obligations.PressesReachMenus : Prop :=
  ((∀ (s : State) (seat : Side) (key : Key) (run : Nat), s.held = none → run < 20 →
    (s.menus.get seat).keys.get key = ⟨false, run⟩ →
    let m := s.menus.get seat
    let pressed : State := { s with menus := s.menus.set seat { m with keys := m.keys.set key ⟨true, 0⟩ } }
    let timed : State := { s with menus := s.menus.set seat { m with
      keys := m.keys.set key ⟨true, 0⟩, repeats := m.repeats.set key (some 500) } }
    let repeating := (key = .up ∨ key = .down ∨ key = .volUp ∨ key = .volDown) ∧ s.tables.control.nat 18 = 1
    let answer := exec (.press seat key (List.replicate (20 - run) false)) s
    (s.unit.service = .cameraOnly → answer = .next pressed) ∧
    (s.unit.service = .media → ¬ repeating → answer = .next (pressed.pressKey seat key)) ∧
    (s.unit.service = .media → repeating → answer = .next (timed.pressKey seat key)) ∧
    (∀ n, run + n < 20 → exec (.press seat key (List.replicate n false)) s = .next
      { s with menus := s.menus.set seat { m with keys := m.keys.set key ⟨false, run + n⟩ } }) ∧
    exec (.press seat key [true]) s = .next
      { s with menus := s.menus.set seat { m with keys := m.keys.set key ⟨false, 0⟩ } }) ∧
  (∀ (s : State) (seat : Side) (key : Key) (run : Nat), s.held = none → run < 20 →
    (s.menus.get seat).keys.get key = ⟨true, run⟩ →
    let m := s.menus.get seat
    exec (.keyRelease seat key (List.replicate (20 - run) true)) s = .next
      { s with menus := s.menus.set seat { m with
        keys := m.keys.set key ⟨false, 0⟩, repeats := m.repeats.set key none } } ∧
    (∀ n, run + n < 20 → exec (.keyRelease seat key (List.replicate n true)) s = .next
      { s with menus := s.menus.set seat { m with keys := m.keys.set key ⟨true, run + n⟩ } }) ∧
    exec (.keyRelease seat key [false]) s = .next
      { s with menus := s.menus.set seat { m with keys := m.keys.set key ⟨true, 0⟩ } }) ∧
  ∀ (s : State) (r : QueuedRequest) (q : List QueuedRequest), s.takes .key r q →
    let key := [Key.menu, .up, .down, .select, .back, .volUp, .volDown].getD (r.arg 1) .menu
    exec .key s = .next (((s.withQueue q).pressKey (if r.arg 0 = 0 then .a else .b) key).finish r .done [] none)) ∧
  ∀ (s : State) (seat : Side), s.held = none →
    let m := s.menus.get seat
    let with_ (x : Menu) : State := { s with menus := s.menus.set seat x }
    (∀ key,
      let repeats := (m.keys.get key).level = true ∧ s.unit.service = .media ∧ s.tables.control.nat 18 = 1
      (m.repeats.get key = none → exec (.repeatTimerExpiry seat key) s = .next s) ∧
      (m.repeats.get key ≠ none → repeats → exec (.repeatTimerExpiry seat key) s = .next
        ((with_ { m with repeats := m.repeats.set key (some 150) }).pressKey seat key)) ∧
      (m.repeats.get key ≠ none → ¬ repeats → exec (.repeatTimerExpiry seat key) s = .next
        (with_ { m with repeats := m.repeats.set key none }))) ∧
    (m.timeout = none → exec (.timeoutExpiry seat) s = .next s) ∧
    (m.timeout ≠ none → exec (.timeoutExpiry seat) s = .next (with_ { m with stack := [], timeout := none })) ∧
    exec (.bannerExpiry seat) s = .next (with_ { m with banner := none })

/-- MENU opens a CLOSED seat's root page with its first enabled item highlighted, or denies where the root page is 32 or
above, and empties an OPEN seat's stack (R128, R129); BACK pops the top entry (R131); after every press the timeout follows
the page then on top (R132). `State.leaves` is the state with the stack and timeout named. OPEN_PAGE pushes a page in the
same way, or is refused with VALUE (R30, R137). -/
def Obligations.MenuAndBackKeys : Prop :=
  (∀ (s : State) (seat : Side),
    let stack := (s.menus.get seat).stack
    let root := s.tables.control.nat (match seat with
      | .a => 13
      | .b => 14)
    let first := firstHighlight (pageRecord s.tables.pages root) s.tables.items
    (stack = [] → 32 ≤ root → s.pressKey seat .menu = (s.requestChime (s.tables.control.nat 17)).leaves seat []) ∧
    (stack = [] → root < 32 → s.pressKey seat .menu = s.leaves seat [⟨root, first⟩]) ∧
    (stack ≠ [] → s.pressKey seat .menu = s.leaves seat []) ∧
    s.pressKey seat .back = s.leaves seat stack.tail) ∧
  (∀ (s : State) (r : QueuedRequest) (q : List QueuedRequest), s.takes .openPage r q →
    let seat : Side := if r.arg 0 = 0 then .a else .b
    let stack := (s.menus.get seat).stack
    let first := firstHighlight (pageRecord s.tables.pages (r.arg 1)) s.tables.items
    (32 ≤ r.arg 1 ∨ 6 ≤ stack.length → exec .openPage s = .next ((s.withQueue q).finish r .value [] none)) ∧
    (r.arg 1 < 32 → stack.length < 6 → exec .openPage s = .next
      (((s.withQueue q).leaves seat (⟨r.arg 1, first⟩ :: stack)).finish r .done [] none))) ∧
  ∀ (p : PageRecord) (items : Table),
    (∀ i, firstHighlight p items = some i ↔
      i < p.count ∧ p.enabledAt items i = true ∧ ∀ j, j < i → p.enabledAt items j = false) ∧
    (firstHighlight p items = none ↔ ∀ i, i < p.count → p.enabledAt items i = false)

/-- DOWN moves an OPEN seat's highlight to the lowest enabled position above the resolved one and UP to the highest below
it, from none to the lowest and the highest on the page, with the page's move chime; where there is none the seat denies
and the highlight stays (R128, R130). In a CLOSED seat neither has an effect (Table 8-4). -/
def Obligations.UpDownMovesHighlight : Prop :=
  (∀ (s : State) (seat : Side), (s.menus.get seat).stack = [] →
    s.pressKey seat .up = s.leaves seat [] ∧ s.pressKey seat .down = s.leaves seat []) ∧
  ∀ (s : State) (seat : Side) (e : PageEntry) (rest : List PageEntry), (s.menus.get seat).stack = e :: rest →
    let p := pageRecord s.tables.pages e.page
    let enabled (i : Nat) : Prop := i < p.count ∧ itemEnabled s.tables.items ((p.first + i) % 256) = true
    let h : Option Nat := if p.count = 0 then none else e.highlight.map (fun i => min i (p.count - 1))
    let above (i : Nat) : Prop := enabled i ∧ ∀ j, h = some j → j < i
    let below (i : Nat) : Prop := enabled i ∧ ∀ j, h = some j → i < j
    let own := s.tables.pages.nat (8 * e.page + 5)
    let chime := if own = 255 then s.tables.control.nat 15 else own
    let moved (i : Nat) : State := (s.requestChime chime).leaves seat ({ e with highlight := some i } :: rest)
    let denied : State := (s.requestChime (s.tables.control.nat 17)).leaves seat (e :: rest)
    (∀ i, above i → (∀ j, j < i → ¬ above j) → s.pressKey seat .down = moved i) ∧
    ((∀ i, ¬ above i) → s.pressKey seat .down = denied) ∧
    (∀ i, below i → (∀ j, i < j → ¬ below j) → s.pressKey seat .up = moved i) ∧
    ((∀ i, ¬ below i) → s.pressKey seat .up = denied)

/-- SELECT carries out the action of the highlighted enabled item, with the select chime of the page it was selected on,
and denies without a highlight or on a disabled item (R128, R131, R133 to R135). -/
def Obligations.SelectRunsAction : Prop :=
  (∀ (s : State) (seat : Side), (s.menus.get seat).stack = [] → s.pressKey seat .select = s.leaves seat []) ∧
  ∀ (s : State) (seat : Side) (e : PageEntry) (rest : List PageEntry), (s.menus.get seat).stack = e :: rest →
    let p := pageRecord s.tables.pages e.page
    let denied : State := (s.requestChime (s.tables.control.nat 17)).leaves seat (e :: rest)
    let answer := s.pressKey seat .select
    (p.count = 0 ∨ e.highlight = none → answer = denied) ∧
    ∀ h, 0 < p.count → e.highlight = some h →
      let item := (p.first + min h (p.count - 1)) % 256
      let kind := s.tables.items.nat (20 * item + 1)
      let arg := s.tables.items.read (20 * item + 2)
      let own := s.tables.pages.nat (8 * e.page + 6)
      let chime := if own = 255 then s.tables.control.nat 16 else own
      let first := firstHighlight (pageRecord s.tables.pages arg.toNat) s.tables.items
      let enabled := itemEnabled s.tables.items item = true
      (¬ enabled → answer = denied) ∧
      (enabled → kind = 0 ∨ 7 < kind → answer = denied) ∧
      (enabled → kind = 1 → 32 ≤ arg.toNat ∨ 6 ≤ rest.length + 1 → answer = denied) ∧
      (enabled → kind = 1 → arg.toNat < 32 → rest.length + 1 < 6 →
        answer = (s.requestChime chime).leaves seat (⟨arg.toNat, first⟩ :: e :: rest)) ∧
      (enabled → kind = 2 → answer = (s.requestChime chime).leaves seat rest) ∧
      (enabled → kind = 3 → answer = (s.requestChime chime).leaves seat []) ∧
      (enabled → kind = 4 → ¬ (arg.toNat ≤ 3 ∨ arg.toNat = 15) → answer = denied) ∧
      (enabled → kind = 4 → arg.toNat ≤ 3 ∨ arg.toNat = 15 →
        let r := s.tables.route
        let route := (match seat with
          | .a => (r.write 0 arg).write 2 arg
          | .b => (r.write 1 arg).write 3 arg)
        answer = (State.requestChime (State.offerNotice { s with tables := { s.tables with route := route } } .route 0
          (sideCode seat)) chime).leaves seat (e :: rest)) ∧
      (enabled → kind = 5 →
        let r := s.tables.route
        let route := (((r.write 0 (r.read 1)).write 1 (r.read 0)).write 2 (r.read 3)).write 3 (r.read 2)
        answer = (State.requestChime (State.offerNotice { s with tables := { s.tables with route := route } } .route 0
          (sideCode seat)) chime).leaves seat (e :: rest)) ∧
      (enabled → kind = 6 → 255 < arg.toNat → answer = denied) ∧
      (enabled → kind = 6 → arg.toNat ≤ 255 → s.tables.control.nat 0 ≠ 1 →
        answer = (s.requestChime chime).leaves seat (e :: rest)) ∧
      (enabled → kind = 6 → arg.toNat ≤ 255 → s.tables.control.nat 0 = 1 →
        (16 ≤ s.notices.records.length ∨ 2 ≤ s.notices.records.countP fun n => decide (n.kind = .select)) →
        answer = denied) ∧
      (enabled → kind = 6 → arg.toNat ≤ 255 → s.tables.control.nat 0 = 1 → s.notices.records.length < 16 →
        (s.notices.records.countP fun n => decide (n.kind = .select)) < 2 →
        answer = (State.requestChime { s with notices := { s.notices with records := s.notices.records ++
          [⟨.select, (sideCode seat).lo ++ (BitVec.ofNat 8 e.page : Byte), (BitVec.ofNat 8 item : Byte) ++ arg.lo,
            s.notices.time⟩] } } chime).leaves seat (e :: rest)) ∧
      (enabled → kind = 7 → answer = (s.requestChime arg.toNat).leaves seat (e :: rest))

/-- VOL_UP and VOL_DOWN step the seat's zone volume within 0 to 20 with the CONTROL move chime, deny at a limit, and in
either case restart the banner timer with the banner time of the display's active composition bank (R73, R136). -/
def Obligations.VolumeKeySteps : Prop :=
  ∀ (s : State) (seat : Side),
    let word := match seat with
      | .a => 21
      | .b => 22
    let bank := match seat with
      | .a => s.tables.composeA.active
      | .b => s.tables.composeB.active
    let m := s.menus.get seat
    let shown (u : State) : State := State.leaves { u with menus := s.menus.set seat { m with
      banner := if bank.nat 13 = 0 then none else some (bank.nat 13) } } seat m.stack
    let stepped (n : Nat) : State := shown (State.requestChime { s with tables := { s.tables with
      mixer := s.tables.mixer.write word (BitVec.ofNat 16 n) } } (s.tables.control.nat 15))
    let denied : State := shown (s.requestChime (s.tables.control.nat 17))
    let n := s.tables.mixer.nat word
    (n < 20 → s.pressKey seat .volUp = stepped (n + 1)) ∧ (20 ≤ n → s.pressKey seat .volUp = denied) ∧
    (0 < n → s.pressKey seat .volDown = stepped (n - 1)) ∧ (n = 0 → s.pressKey seat .volDown = denied)

/-! Chimes -/

/-- A chime request is settled by the first step of R156 that applies: not soundable, on a voice, held, below the admission
level, a free voice, preemption (R157), or the pending queue. A start takes the descriptor's position and level as the
latest-started voice (R154; start orders: log 18). A descriptor is read as Table 10-1 gives (R152). CHIME is refused with
VALUE for a number of 32 or above or an empty descriptor (R31). Ends of voices that are due come before the settlement
(log 8). -/
def Obligations.ChimeRequestSettles : Prop :=
  (∀ (c : ChimeEngine) (chimes : Table) (n : Nat),
    let p := prioOf chimes n
    let retained (k : Nat) : Prop := (chimeDesc chimes k).retain = true
    let waits : Prop := n ∈ c.queue ∨ ∃ x ∈ c.suspended, x.chime = n
    let soundable := n < 32 ∧ ¬ ((chimeDesc chimes n).head = 0 ∧ (chimeDesc chimes n).loop = 0)
    let queued : ChimeEngine := { c with queue := offerChime chimes n c.queue }
    let absent := ∀ v x, c.voices.get v = some x → x.chime ≠ n
    let busy := ∀ v, c.voices.get v ≠ none
    let t := c.settle chimes n
    (¬ soundable → t = c) ∧
    (∀ v x, soundable → c.voices.get v = some x → x.chime = n → (∀ w y, c.voices.get w = some y → y.chime = n → w = v) →
      (c.level ≤ p → t = c.startOn chimes v n) ∧ (p < c.level → t = c)) ∧
    (soundable → absent → waits → t = c) ∧
    (soundable → absent → ¬ waits → p < c.level → (retained n → t = queued) ∧ (¬ retained n → t = c)) ∧
    (∀ v, soundable → absent → ¬ waits → c.level ≤ p → c.lowestFree = some v → t = c.startOn chimes v n) ∧
    (soundable → absent → ¬ waits → c.level ≤ p → busy →
      (∀ v x, c.voices.get v = some x → x.releasing = false → p ≤ prioOf chimes x.chime) →
      (retained n → t = queued) ∧ (¬ retained n → t = c)) ∧
    (∀ v x, soundable → absent → ¬ waits → c.level ≤ p → busy → c.victim chimes = some (v, x) → prioOf chimes x.chime < p →
      (¬ retained x.chime → t = c.startOn chimes v n) ∧
      (retained x.chime → c.suspended.length < 3 →
        t = ChimeEngine.startOn { c with suspended := ⟨x.chime, x.phase, x.offset, x.loops⟩ :: c.suspended } chimes v n) ∧
      (retained x.chime → 3 ≤ c.suspended.length → (retained n → t = queued) ∧ (¬ retained n → t = c)))) ∧
  (∀ (c : ChimeEngine) (chimes : Table) (v : VoiceId) (n : Nat),
    let d := chimeDesc chimes n
    c.startOn chimes v n = { c with
      voices := c.voices.set v (some ⟨n, false, if d.head = 0 then .loop else .head, 0, d.loops, d.level, c.starts, none⟩)
      starts := c.starts + 1 }) ∧
  (∀ (chimes : Table) (n : Nat),
    let d := chimeDesc chimes n
    let word (k : Nat) := chimes.nat (8 * n + k)
    d.start = word 0 ∧ d.head = word 1 ∧ d.loop = word 2 ∧ (word 3 = 0 → d.loops = none) ∧
    (word 3 ≠ 0 → d.loops = some (min (word 3) 255)) ∧ d.level = min (word 4) 32768 ∧ d.priority = min (word 5) 7 ∧
    prioOf chimes n = d.priority ∧ (d.names .zoneA = true ↔ word 6 % 2 = 1) ∧ (d.names .zoneB = true ↔ word 6 / 2 % 2 = 1) ∧
    (d.names .cabin = true ↔ word 6 / 4 % 2 = 1) ∧ (d.retain = true ↔ word 7 % 2 = 1) ∧
    (d.duck = true ↔ word 7 / 2 % 2 = 1)) ∧
  ∀ (s : State) (r : QueuedRequest) (q : List QueuedRequest), s.takes .chime r q →
    let n := r.arg 0
    let empty := s.tables.chimes.nat (8 * n + 1) = 0 ∧ s.tables.chimes.nat (8 * n + 2) = 0
    (32 ≤ n ∨ empty → exec .chime s = .next ((s.withQueue q).finish r .value [] none)) ∧
    (n < 32 → ¬ empty → exec .chime s = .next (State.finish { s.withQueue q with
      chimes := (s.chimes.settleEnds s.tables.chimes).settle s.tables.chimes n } r .done [] none))

/-- The victim of a preemption is the latest-started of the SOUNDING voices of the lowest priority, and there is none just
when no voice is SOUNDING (R157); the free voice taken is the lowest-numbered one (R156 step 5). A chime offered to the
pending queue goes behind every chime of its own or a higher priority and ahead of every lower one; into a full queue it
comes only over the newest chime of the lowest priority, which it evicts (R158). -/
def Obligations.VictimAndQueueRanking : Prop :=
  (∀ (c : ChimeEngine) (chimes : Table),
    (∀ v x, c.victim chimes = some (v, x) → c.voices.get v = some x ∧ x.releasing = false ∧
      ∀ w y, c.voices.get w = some y → y.releasing = false →
        prioOf chimes x.chime < prioOf chimes y.chime ∨ prioOf chimes x.chime = prioOf chimes y.chime ∧ y.order ≤ x.order) ∧
    (c.victim chimes = none ↔ ∀ w y, c.voices.get w = some y → y.releasing = true) ∧
    (c.lowestFree = some .v0 ↔ c.voices.get .v0 = none) ∧
    (c.lowestFree = some .v1 ↔ c.voices.get .v0 ≠ none ∧ c.voices.get .v1 = none) ∧
    (c.lowestFree = some .v2 ↔ c.voices.get .v0 ≠ none ∧ c.voices.get .v1 ≠ none ∧ c.voices.get .v2 = none) ∧
    (c.lowestFree = none ↔ ∀ v, c.voices.get v ≠ none)) ∧
  ∀ (chimes : Table) (n : Nat) (q : List Nat), queueOrdered chimes q = true → q.length ≤ 8 →
    queueOrdered chimes (offerChime chimes n q) = true ∧ (offerChime chimes n q).length ≤ 8 ∧
    (q.length < 8 → ∃ before after, q = before ++ after ∧ offerChime chimes n q = before ++ n :: after ∧
      (∀ m ∈ before, prioOf chimes n ≤ prioOf chimes m) ∧ ∀ m ∈ after, prioOf chimes m < prioOf chimes n) ∧
    (∀ low kept, q.length = 8 → q = kept ++ [low] →
      (prioOf chimes n ≤ prioOf chimes low → offerChime chimes n q = q) ∧
      (prioOf chimes low < prioOf chimes n → ∃ before after, kept = before ++ after ∧
        offerChime chimes n q = before ++ n :: after ∧
        (∀ m ∈ before, prioOf chimes n ≤ prioOf chimes m) ∧ ∀ m ∈ after, prioOf chimes m < prioOf chimes n))

/-- A voice plays its head and then its loop passes, and its natural end is due at the tick that gives its last sample
(R154); a RELEASING voice falls by the release step and its release ends at level 0 (R155). The mark of an end that is due
is log 8. -/
def Obligations.VoicePlaysToItsEnd : Prop :=
  (∀ (x : Voice) (chimes : Table) (fall : Nat), x.releasing = false → x.due = none →
    let d := chimeDesc chimes x.chime
    let y := x.tick chimes fall
    (x.phase = .head → x.offset + 1 < d.head → y = { x with offset := x.offset + 1 }) ∧
    (x.phase = .head → d.head ≤ x.offset + 1 → 0 < d.loop → y = { x with phase := .loop, offset := 0 }) ∧
    (x.phase = .head → d.head ≤ x.offset + 1 → d.loop = 0 → y = { x with offset := x.offset + 1, due := some .natural }) ∧
    (x.phase = .loop → x.offset + 1 < d.loop → y = { x with offset := x.offset + 1 }) ∧
    (x.phase = .loop → d.loop ≤ x.offset + 1 → x.loops = none → y = { x with offset := 0 }) ∧
    (∀ k, x.phase = .loop → d.loop ≤ x.offset + 1 → x.loops = some k → 1 < k →
      y = { x with offset := 0, loops := some (k - 1) }) ∧
    (x.phase = .loop → d.loop ≤ x.offset + 1 → x.loops = some 1 → y.due = some .natural ∧ y.chime = x.chime)) ∧
  (∀ (x : Voice) (chimes : Table) (fall : Nat), x.releasing = true → x.due = none →
    let y := x.tick chimes fall
    let sounding := Voice.tick { x with releasing := false } chimes fall
    y.level = x.level - fall ∧ y.releasing = true ∧ y.chime = x.chime ∧ y.phase = sounding.phase ∧
      y.offset = sounding.offset ∧ y.loops = sounding.loops ∧
      (sounding.due = some .natural → y.due = some .natural) ∧
      (sounding.due = none → x.level ≤ fall → y.due = some .release) ∧
      (sounding.due = none → fall < x.level → y.due = none)) ∧
  ∀ (x : Voice) (chimes : Table),
    (x.phase = .head → x.address chimes = ((chimeDesc chimes x.chime).start + x.offset) % 65536) ∧
    (x.phase = .loop → x.address chimes =
      ((chimeDesc chimes x.chime).start + (chimeDesc chimes x.chime).head + x.offset) % 65536)

/-- VOICE_NATURAL_END and RELEASE_END free the lowest-numbered voice whose end is due, if it is of their kind (log 8), and
the voice takes the top of the suspend list or the head of the pending queue, each only at or above the admission level,
the higher priority first and the suspended chime on a tie; with no candidate it stays FREE (R154, R155, R159). -/
def Obligations.FreedVoiceTakesCandidate : Prop :=
  (∀ (s : State) (v : VoiceId) (e : VoiceEnd), s.held = none → s.chimes.firstDue = some (v, e) →
    let freed : ChimeEngine := { s.chimes with voices := s.chimes.voices.set v none }
    let done : Result := .next { s with chimes := freed.takeCandidate s.tables.chimes v }
    exec .voiceNaturalEnd s = (if e = .natural then done else .next s) ∧
    exec .releaseEnd s = (if e = .release then done else .next s)) ∧
  (∀ s : State, s.held = none → s.chimes.firstDue = none →
    exec .voiceNaturalEnd s = .next s ∧ exec .releaseEnd s = .next s) ∧
  ∀ (c : ChimeEngine) (chimes : Table) (v : VoiceId),
    let admitted (n : Nat) : Prop := c.level ≤ prioOf chimes n
    let resumed (x : Saved) (rest : List Saved) : ChimeEngine := { c with
      suspended := rest
      voices := c.voices.set v
        (some ⟨x.chime, false, x.phase, x.offset, x.loops, (chimeDesc chimes x.chime).level, c.starts, none⟩)
      starts := c.starts + 1 }
    let started (n : Nat) (rest : List Nat) : ChimeEngine := ChimeEngine.startOn { c with queue := rest } chimes v n
    ((∀ x, c.suspended.head? = some x → ¬ admitted x.chime) → (∀ n, c.queue.head? = some n → ¬ admitted n) →
      c.takeCandidate chimes v = c) ∧
    (∀ x rest, c.suspended = x :: rest → admitted x.chime →
      (∀ n, c.queue.head? = some n → admitted n → prioOf chimes n ≤ prioOf chimes x.chime) →
      c.takeCandidate chimes v = resumed x rest) ∧
    (∀ n rest, c.queue = n :: rest → admitted n →
      (∀ x, c.suspended.head? = some x → admitted x.chime → prioOf chimes x.chime < prioOf chimes n) →
      c.takeCandidate chimes v = started n rest)

/-- A rise of the admission level handles the SOUNDING voices below it in start order, earliest first: one is suspended and
becomes FREE where its chime is retained and the list has room as the voices before left it, and else goes to RELEASING;
other voices stay. Each voice so freed then takes a candidate against the new level, lowest-numbered first. A fall lets
every FREE voice take a candidate, lowest-numbered first. The present level changes nothing (R159, R160; start orders: log 18).
STOP_CHIME removes the chime from the pending queue and the suspend list, with the others in their order, and makes its
voice RELEASING; everything else stays (R31, R161). Ends that are due come first (log 8). -/
def Obligations.AdmissionLevelAndStopChime : Prop :=
  (∀ (c : ChimeEngine) (chimes : Table) (l : Nat),
    let t := c.setLevel chimes l
    t.level = l ∧
    (l = c.level → t = c) ∧
    (c.level < l → ∀ v,
      (c.voices.get v = none → t.voices.get v = none) ∧
      (∀ x, c.voices.get v = some x → (x.releasing = true ∨ l ≤ prioOf chimes x.chime) → t.voices.get v = some x) ∧
      (∀ x, c.voices.get v = some x → x.releasing = false → prioOf chimes x.chime < l →
        ((chimeDesc chimes x.chime).retain = false → t.voices.get v = some { x with releasing := true }) ∧
        (t.voices.get v = some { x with releasing := true } ∨ (⟨x.chime, x.phase, x.offset, x.loops⟩ : Saved) ∈ t.suspended) ∧
        ((chimeDesc chimes x.chime).retain = true → c.suspended = [] →
          (⟨x.chime, x.phase, x.offset, x.loops⟩ : Saved) ∈ t.suspended))) ∧
    (c.level < l → ∃ vs : List VoiceId, vs.Nodup ∧
      (∀ v, v ∈ vs ↔ ∃ x, c.voices.get v = some x ∧ x.releasing = false ∧ prioOf chimes x.chime < l) ∧
      (vs.Pairwise fun v w => ∀ x y, c.voices.get v = some x → c.voices.get w = some y → x.order ≤ y.order) ∧
      let held := vs.foldl (fun (e : ChimeEngine) v => match e.voices.get v with
        | none => e
        | some x => if (chimeDesc chimes x.chime).retain = true ∧ e.suspended.length < 3
          then { e with
            suspended := ⟨x.chime, x.phase, x.offset, x.loops⟩ :: e.suspended, voices := e.voices.set v none }
          else { e with voices := e.voices.set v (some { x with releasing := true }) }) { c with level := l }
      t = ([VoiceId.v0, .v1, .v2].foldl (fun (e : ChimeEngine) v =>
        if c.voices.get v ≠ none ∧ e.voices.get v = none then e.takeCandidate chimes v else e) held)) ∧
    (l < c.level →
      t = ([VoiceId.v0, .v1, .v2].foldl (fun (e : ChimeEngine) v =>
        if e.voices.get v = none then e.takeCandidate chimes v else e) { c with level := l }))) ∧
  (∀ (s : State) (r : QueuedRequest) (q : List QueuedRequest), s.takes .stopChime r q →
    exec .stopChime s = .next (State.finish { s.withQueue q with
      chimes := (s.chimes.settleEnds s.tables.chimes).stop (r.arg 0) } r .done [] none)) ∧
  ∀ (c : ChimeEngine) (n : Nat),
    let t := c.stop n
    t = { c with voices := t.voices, suspended := t.suspended, queue := t.queue } ∧
    t.queue = c.queue.filter (fun m => decide (m ≠ n)) ∧
    t.suspended = c.suspended.filter (fun x => decide (x.chime ≠ n)) ∧
    ∀ v, (∀ x, c.voices.get v = some x → x.chime = n → t.voices.get v = some { x with releasing := true }) ∧
      ((∀ x, c.voices.get v = some x → x.chime ≠ n) → t.voices.get v = c.voices.get v)

/-! The rear displays -/

/-- The reader's frame start (R50, R56): a changed route empties the store and makes the display PLAYING or NO_SOURCE; a
HALTED display with its resume flag set plays; a STALLED one with 8 slots recovers; a PLAYING display opens the frame of
its oldest slot's tag, or of the next tag from an empty store. A frame that is not opened leaves every other field of the
reader. For the last drawn row this is the model's choice (log 32): R49 speaks of the present frame's row or none, and the
last clause, which keeps the earlier frame's row until the next opening, rests on that choice. -/
def Obligations.ReaderFrameStart : Prop :=
  ∀ (x : Display) (route : Option Prog),
    let r := x.reader
    let t := x.readerStart route
    let changed := route ≠ r.route
    let playing := (changed ∧ route ≠ none) ∨ (¬ changed ∧ (r.picture = .playing ∨ r.picture = .halted ∧ r.resume = true ∨
      r.picture = .stalled ∧ 8 ≤ x.store.length))
    t = { x with store := t.store, reader := t.reader } ∧
    t.store = (if route = r.route then x.store else []) ∧ t.reader.route = route ∧
    t.reader.picture = (if playing then .playing else if route ≠ r.route then .noSource else r.picture) ∧
    (playing → t.reader.openTag = (match t.store with
        | [] => r.openTag + 1
        | y :: _ => y.tag) ∧
      t.reader.phase = .before ∧ t.reader.nextLine = 0 ∧ t.reader.misses = 0 ∧ t.reader.lastRow = none ∧
      t.reader.opened = true ∧ t.reader.resume = (if r.picture = .halted ∨ route ≠ r.route then false else r.resume)) ∧
    (¬ playing → t.reader = { r with
      route := route
      picture := t.reader.picture
      resume := if route ≠ r.route then false else r.resume
      phase := if r.picture = .stalled ∧ route = r.route then .before else r.phase
      opened := false })

/-- A display frame start takes the exchange of the display's composition group, latches the composition, the route and the
menu snapshot and banner, and for display A decides whether the frame is mirrored, all for the frame that follows (R37,
R58, R64, R74). GROUP comes before PICTURE (log 12, R40 lets either come first); when the frame start is due, and the
raster's row and marks, are log 20. -/
def Obligations.DisplayFrameStartLatches : Prop :=
  ∀ (s : State) (d : Side), s.held = none → s.unit.service = .media →
    (∀ r, (s.disp.get d).raster = some r → displayHeight s.tables.raster d ≤ r.row ∧ r.bottom = true) →
    let g := s.tables.group (composeOf d)
    let g' : Group := match g.state with
      | .idle => g
      | .swapPending => ⟨g.active, g.staging, .copying⟩
      | .copying => ⟨g.active, g.active, .idle⟩
    let reader := (s.disp.get d).readerStart (routeProg (s.tables.route.read (match d with
      | .a => 0
      | .b => 1)))
    let mirrors := d = .a ∧ s.rear.actual = .mirror
    let offers : State := if g.state = .swapPending then s.offerNotice .group (composeOf d).code 2 else s
    ∃ t, exec (.displayFrameStart d) s = .next t ∧
      t = { s with
        tables := { s.tables.setGroup (composeOf d) g' with stats := t.tables.stats }
        disp := t.disp, mirror := t.mirror, notices := t.notices, rear := t.rear } ∧
      (∀ e, e ≠ d → t.disp.get e = s.disp.get e) ∧
      (∀ i, i < 32 → ∃ c, (t.disp.get d).comp = some c ∧ c.read i = g'.active.read i) ∧
      (t.disp.get d).reader = reader.reader ∧ (t.disp.get d).store = reader.store ∧
      (t.disp.get d).raster = some ⟨0, false, false⟩ ∧ (t.disp.get d).menu = s.snapshot d ∧
      (t.disp.get d).banner = ((s.menus.get d).banner.map fun _ => (⟨s.tables.mixer.nat (match d with
        | .a => 21
        | .b => 22), s.tables.control.nat 19, s.tables.control.nat 20⟩ : BannerLatch)) ∧
      t.notices = (if reader.reader.picture = (s.disp.get d).reader.picture then offers.notices
        else (offers.offerNotice .picture (sideCode d) reader.reader.picture.code).notices) ∧
      (¬ mirrors → t.mirror = (if d = .a then { s.mirror with frame := none } else s.mirror) ∧ t.rear = s.rear ∧
        t.tables.stats = s.tables.stats) ∧
      (mirrors → t.mirror = ⟨some s.mirror.tag, s.mirror.tag + 1⟩ ∧
        let mark : UpPicture := .mark .mirror s.mirror.tag (displayWidth s.tables.raster .a) (displayHeight s.tables.raster .a)
        (s.link.up = true → s.rear.queue.length < 4 → t.rear = { s.rear with queue := s.rear.queue ++ [mark] } ∧
          t.tables.stats = s.tables.stats) ∧
        (s.link.up = true → 4 ≤ s.rear.queue.length → t.rear = s.rear ∧
          t.tables.stats = (s.bump 15 1).tables.stats) ∧
        (s.link.up = false → t.rear = s.rear ∧ t.tables.stats = (s.bump 2 1).tables.stats))

/-- At the window top of an opened frame the phase becomes INSIDE, and at its window bottom every slot of the open tag is
freed, those not drawn are counted in UNUSED, and the phase becomes AFTER; a frame that was not opened takes no action at
either. An event that is not due changes nothing (log 3): in CAMERA_ONLY, without a raster or a latched composition, at
another row, when it has already come, and the bottom before the top. The raster's own marks are log 20. -/
def Obligations.WindowTopAndBottom : Prop :=
  ∀ (s : State) (d : Side), s.held = none →
    let x := s.disp.get d
    let moved (r : Raster) (store : List Slot) (reader : Reader) : State :=
      { s with disp := s.disp.set d { x with raster := some r, store := store, reader := reader } }
    (∀ r c, s.unit.service = .media → x.raster = some r → x.comp = some c →
      (r.row = c.nat 2 → r.top = false →
        (x.reader.opened = true →
          exec (.windowTop d) s = .next (moved { r with top := true } x.store { x.reader with phase := .inside })) ∧
        (x.reader.opened = false → exec (.windowTop d) s = .next (moved { r with top := true } x.store x.reader))) ∧
      (r.row = c.nat 2 + c.nat 4 → r.top = true → r.bottom = false →
        (x.reader.opened = true → exec (.windowBottom d) s = .next
          ((moved { r with bottom := true } (x.store.filter fun y => decide (y.tag ≠ x.reader.openTag))
            { x.reader with phase := .after }).bump (match d with
              | .a => 8
              | .b => 13) (x.store.countP fun y => decide (y.tag = x.reader.openTag) && !y.drawn))) ∧
        (x.reader.opened = false →
          exec (.windowBottom d) s = .next (moved { r with bottom := true } x.store x.reader)))) ∧
    (∀ r c, x.raster = some r → x.comp = some c →
      (r.row ≠ c.nat 2 ∨ r.top = true → exec (.windowTop d) s = .next s) ∧
      (r.row ≠ c.nat 2 + c.nat 4 ∨ r.top = false ∨ r.bottom = true → exec (.windowBottom d) s = .next s)) ∧
    ((s.unit.service = .cameraOnly ∨ x.raster = none ∨ x.comp = none) →
      exec (.windowTop d) s = .next s ∧ exec (.windowBottom d) s = .next s)

/-- The reader's part of a window row (R52 to R54): with r the row, the source line is r ÷ scale; a line the programme does
not have is fill without a miss; a held line is drawn, its earlier slots skipped and counted, and it is freed after its last
row; a missing line repeats the last drawn row or fill, and the eighth miss in a row stalls the display. A frame that is not
opened, or not PLAYING, is fill and leaves the store alone (R56). -/
def Obligations.WindowRowReadsStore : Prop :=
  ∀ (s : State) (d : Side) (scale r : Nat), 0 < scale →
    let x := s.disp.get d
    let rd := x.reader
    let l := r / scale
    let next := (r + 1) / scale
    let height := match rd.route with
      | some p => (s.formats.get p).height
      | none => 0
    let u := s.windowRow d scale r
    let put (y : Display) : State := { s with disp := s.disp.set d y }
    (rd.opened = false ∨ rd.picture ≠ .playing → u = (s, .fill)) ∧
    (rd.opened = true → rd.picture = .playing → height ≤ l →
      u = (put { x with reader := { rd with nextLine := next } }, .fill)) ∧
    (∀ y, rd.opened = true → rd.picture = .playing → l < height → y ∈ x.store → y.tag = rd.openTag → y.line = l →
      slotsDistinct x.store = true →
      u.2 = .pixels y.pixels ∧
      u.1 = (put { x with
        store := if l < next then x.store.filter fun z => !(decide (z.tag = rd.openTag ∧ z.line ≤ l))
          else (x.store.filter fun z => !(decide (z.tag = rd.openTag ∧ z.line < l))).map fun z =>
            if z = y then { z with drawn := true } else z
        reader := { rd with lastRow := some y.pixels, misses := 0, nextLine := next } }).bump (match d with
          | .a => 7
          | .b => 12) (x.store.countP fun z => decide (z.tag = rd.openTag ∧ z.line < l))) ∧
    (rd.opened = true → rd.picture = .playing → l < height → (∀ y ∈ x.store, ¬ (y.tag = rd.openTag ∧ y.line = l)) →
      (rd.misses + 1 < 8 →
        u = (put { x with reader := { rd with misses := rd.misses + 1, nextLine := next } }, match rd.lastRow with
          | some row => .pixels row
          | none => .fill)) ∧
      (8 ≤ rd.misses + 1 →
        u = ((put { x with reader := { rd with misses := rd.misses + 1, picture := .stalled } }).offerNotice .picture
          (sideCode d) 2, .fill)))

/-- An active row puts out one colour for each active column (R67): the latched background, the film pixel of the window
row, shaded while the menu is open, the menu panel over it and the banner over that; display A offers each row of a mirrored
frame upstream (R75), which the model does in the row's own step (log 20). Rows below, above and beside the window are
background; a row that is not due changes nothing (log 3). The outputs of the screen carry the row on its active pixels and
0 elsewhere, with the pixel clock at the descriptor's rate (R60) and the sync and data-enable levels of R62; those of a
stopped display are low and its pixel clock is held low. They are given as a function of line and pixel (log 25). -/
def Obligations.ActiveRowComposes : Prop :=
  (∀ (s : State) (d : Side) (c : Table) (y : Nat), s.held = none → s.rowDue d = some y → (s.disp.get d).comp = some c →
    let inWindow := c.nat 2 ≤ y ∧ y < c.nat 2 + c.nat 4
    let read := s.windowRow d (c.nat 5) (y - c.nat 2)
    let s1 := if inWindow then read.1 else s
    let source := if inWindow then some read.2 else none
    let x := s1.disp.get d
    let pixel (i : Nat) : Rgb := composePixel s.tables x c source y i
    let out := (List.range (displayWidth s.tables.raster d)).map pixel
    let s2 : State := { s1 with disp := s1.disp.set d { x with
      rowOut := out, raster := x.raster.map fun r => { r with row := y + 1 } } }
    (∀ tag, d = .a → s.mirror.frame = some tag →
      exec (.activeRow d) s = .next (s2.offerPicture (.line .mirror tag y out))) ∧
    (d = .b ∨ s.mirror.frame = none → exec (.activeRow d) s = .next s2)) ∧
  (∀ (s : State) (d : Side), s.held = none → (s.rowDue d = none ∨ (s.disp.get d).comp = none) →
    exec (.activeRow d) s = .next s) ∧
  (∀ (s : State) (d : Side) (line px : Nat),
    let f (k : Nat) := s.tables.raster.nat ((match d with
      | .a => 0
      | .b => 16) + k)
    let pins := s.screenPins d line px
    (s.unit.service = .cameraOnly → pins = ⟨.heldLow, false, false, false, Rgb.black⟩) ∧
    (s.unit.service = .media →
      (∀ rate, [24000, 33000, 48000, 66000][f 0]? = some rate → pins.clk = .running rate) ∧
      (pins.hs = true ↔ px < f 2) ∧ (pins.vs = true ↔ line < f 6) ∧
      (pins.de = true ↔ (f 7 ≤ line ∧ line < f 7 + f 8) ∧ f 3 ≤ px ∧ px < f 3 + f 4) ∧
      (pins.de = false → pins.data = Rgb.black) ∧
      ∀ i, px = f 3 + i → pins.de = true → pins.data = (s.disp.get d).rowOut.getD i Rgb.black)) ∧
  ∀ (t : TableStore) (v : Display) (c : Table) (source : Option RowSource) (y i : Nat),
    let background := refColour t.palettes (c.nat 0)
    let inColumns := c.nat 1 ≤ i ∧ i < c.nat 1 + c.nat 3
    let film : Rgb := match source with
      | some (.pixels row) => row.getD ((i - c.nat 1) / c.nat 5) (refColour t.palettes (c.nat 6))
      | _ => refColour t.palettes (c.nat 6)
    let shaded : Rgb := if v.menu = none then film else ⟨shadeChannel film.r (c.nat 7), shadeChannel film.g (c.nat 7),
      shadeChannel film.b (c.nat 7)⟩
    let base := if source ≠ none ∧ inColumns then shaded else background
    composePixel t v c source y i = bannerOver c t.tiles t.palettes v.banner i y
      (panelOver c t.tiles t.palettes v.menu i y base)

/-- A page record is read as Table 8-1 gives (R125), and an item is enabled by bit 15 of its first word (R126). The menu
snapshot shows a page's items on the page's tile rows, each label cell in the palette of its item (R138); the
panel draws its cells' tiles where it lies and nothing else, and the banner its filled tiles below the step and its empty
tiles from there (R72, R73). A tile pixel is two bits of TILES, index 0 is transparent, and a tile number of 512 or above
draws nothing (R70). -/
def Obligations.MenuPanelAndBannerDraw : Prop :=
  (∀ (pages items : Table) (p n : Nat),
    let r := pageRecord pages p
    let word (k : Nat) := pages.nat (8 * p + k)
    r.first = word 0 % 256 ∧ r.count = min (word 1) 12 ∧ r.normal = word 2 % 16 ∧ r.highlight = word 3 % 16 ∧
    r.disabled = word 4 % 16 ∧ r.move = word 5 ∧ r.select = word 6 ∧ r.timeout = min (word 7) 60 ∧
    (itemEnabled items n = true ↔ 32768 ≤ items.nat (20 * n))) ∧
  (∀ (s : State) (seat : Side), (s.menus.get seat).stack = [] → s.snapshot seat = none) ∧
  (∀ (s : State) (seat : Side) (e : PageEntry) (rest : List PageEntry), (s.menus.get seat).stack = e :: rest →
    let p := pageRecord s.tables.pages e.page
    let h : Option Nat := if p.count = 0 then none else e.highlight.map (fun i => min i (p.count - 1))
    ∃ rows, s.snapshot seat = some rows ∧ rows.length = p.count ∧ ∀ i, i < p.count →
      let item := (p.first + i) % 256
      let label := min (s.tables.items.nat (20 * item) % 32) 16
      ∃ row, rows[i]? = some row ∧ row.tiles.length = label ∧
        row.palette = (if h = some i then p.highlight else if itemEnabled s.tables.items item then p.normal else p.disabled) ∧
        ∀ c, c < label → row.tiles[c]? = some (s.tables.items.nat (20 * item + 4 + c))) ∧
  (∀ (c tiles palettes : Table) (rows : List MenuRow) (x y : Nat) (b : Rgb),
    let drawn := panelOver c tiles palettes (some rows) x y b
    panelOver c tiles palettes none x y b = b ∧
    (x < c.nat 8 ∨ c.nat 8 + 256 ≤ x ∨ y < c.nat 9 ∨ c.nat 9 + 192 ≤ y → drawn = b) ∧
    ∀ u v, x = c.nat 8 + u → y = c.nat 9 + v → u < 256 → v < 192 →
      (rows.length ≤ v / 16 → drawn = b) ∧
      ∀ row, rows[v / 16]? = some row →
        (row.tiles.length ≤ u / 16 → drawn = b) ∧
        ∀ tile, row.tiles[u / 16]? = some tile → drawn = tileOver tiles palettes tile row.palette (v % 16) (u % 16) b) ∧
  (∀ (c tiles palettes : Table) (n : BannerLatch) (x y : Nat) (b : Rgb),
    let drawn := bannerOver c tiles palettes (some n) x y b
    bannerOver c tiles palettes none x y b = b ∧
    (x < c.nat 10 ∨ c.nat 10 + 320 ≤ x ∨ y < c.nat 11 ∨ c.nat 11 + 16 ≤ y → drawn = b) ∧
    ∀ u v, x = c.nat 10 + u → y = c.nat 11 + v → u < 320 → v < 16 →
      drawn = tileOver tiles palettes (if u / 16 < n.step then n.filled else n.empty) (c.nat 12) v (u % 16) b) ∧
  ∀ (tiles palettes : Table) (tile palette r x : Nat) (b : Rgb), r < 16 → x < 16 →
    let word := tiles.read (32 * tile + 2 * r + x / 8)
    let index := (word.extractLsb' (2 * (7 - x % 8)) 2).toNat
    let w0 := palettes.read (8 * palette + 2 * index)
    let w1 := palettes.read (8 * palette + 2 * index + 1)
    (512 ≤ tile ∨ index = 0 → tileOver tiles palettes tile palette r x b = b) ∧
    (tile < 512 → index ≠ 0 → tileOver tiles palettes tile palette r x b =
      Paint.over ⟨min (w0.extractLsb' 8 8).toNat 4, ⟨w0.extractLsb' 0 8, w1.extractLsb' 8 8, w1.extractLsb' 0 8⟩⟩ b)

/-- A blended channel lies between the lower and the tile's channel, with opacity 0 leaving the lower and 4 giving the
tile's; a shaded channel never rises and level 0 leaves it (R69, R71). -/
def Obligations.BlendStaysBetween : Prop :=
  (∀ (b k : Byte) (p : Nat), p ≤ 4 →
    (blendChannel b k p).toNat ≤ max b.toNat k.toNat ∧ min b.toNat k.toNat ≤ (blendChannel b k p).toNat) ∧
  (∀ b k : Byte, blendChannel b k 0 = b ∧ blendChannel b k 4 = k) ∧
  (∀ (b k : Byte) (p : Nat), p ≤ 4 →
    ((blendChannel b k p).toNat : Int) = b.toNat + (((k.toNat : Int) - b.toNat) * p).fdiv 4) ∧
  (∀ (k : Paint) (b : Rgb), k.over b =
    ⟨blendChannel b.r k.colour.r k.opacity, blendChannel b.g k.colour.g k.opacity, blendChannel b.b k.colour.b k.opacity⟩) ∧
  ∀ (v : Byte) (level : Nat), level ≤ 3 →
    (shadeChannel v level).toNat = v.toNat - v.toNat * level / 4 ∧ shadeChannel v 0 = v

/-! The Steering Counter -/

/-- A filter sample passes each input's level at the F-th sample that shows it (R79), then decodes the filtered pair: a step
along or against 00, 01, 11, 10 moves the count by 1 within the limit, a change of both signals is a fault, and an accepted
index edge sets the count to the index value in place of the step (R80 to R84). A change of state offers one STEER notice
(R85); OFF decodes nothing, and the first sample after a reset only takes the raw levels (R89). -/
def Obligations.FilterSampleDecodes : Prop :=
  ∀ (s : State) (a b ix : Bool), s.held = none →
    let st := s.steer
    let word := s.tables.steering.nat
    let filtered (f : FilterRecord) (raw : Bool) : FilterRecord :=
      if raw = f.level then ⟨f.level, 0⟩ else if word 2 ≤ f.run + 1 then ⟨raw, 0⟩ else ⟨f.level, f.run + 1⟩
    ∃ t, exec (.filterSample a b ix) s = .next t ∧ t = { s with steer := t.steer, notices := t.notices } ∧
      t.notices = (if t.steer.state = st.state then s.notices else (s.offerNotice .steer 0 t.steer.state.code).notices) ∧
      (st.fresh = true → t.steer = { st with
        filtA := ⟨a, 0⟩, filtB := ⟨b, 0⟩, filtIx := ⟨ix, 0⟩, prevA := a, prevB := b, prevIx := ix, fresh := false }) ∧
      (st.fresh = false →
        let fA := filtered st.filtA a
        let fB := filtered st.filtB b
        let fIx := filtered st.filtIx ix
        let after (u : Steering) : Steering := { u with
          filtA := fA, filtB := fB, filtIx := fIx, prevA := fA.level, prevB := fB.level, prevIx := fIx.level }
        let change := ((st.prevA, st.prevB), (fA.level, fB.level))
        let forward := change ∈ [((false, false), (false, true)), ((false, true), (true, true)),
          ((true, true), (true, false)), ((true, false), (false, false))]
        let backward := (change.2, change.1) ∈ [((false, false), (false, true)), ((false, true), (true, true)),
          ((true, true), (true, false)), ((true, false), (false, false))]
        let illegal := st.prevA ≠ fA.level ∧ st.prevB ≠ fB.level
        let dir : Option Direction := if forward then some .forward else if backward then some .backward else st.lastDir
        let rising := st.prevIx = false ∧ fIx.level = true
        let falling := st.prevIx = true ∧ fIx.level = false
        let accepted := (word 5 = 0 ∧ (rising ∧ dir = some .forward ∨ falling ∧ dir = some .backward)) ∨ (word 5 = 1 ∧ rising)
        let limit : Int := word 3
        let index := s.tables.steering.int 4
        let amount : Int := if (forward ∧ word 1 = 1) ∨ (backward ∧ word 1 ≠ 1) then -1 else 1
        (st.state = .off → t.steer = after st) ∧
        (st.state ≠ .off → illegal →
          t.steer = after { st with state := .fault, faults := min (st.faults + 1) 65535, lastDir := none }) ∧
        (st.state ≠ .off → ¬ illegal → accepted → -limit ≤ index → index ≤ limit →
          t.steer = after { st with state := .referenced, count := index, lastDir := dir }) ∧
        (st.state ≠ .off → ¬ illegal → accepted → limit < index →
          t.steer = after { st with state := .referenced, count := limit, limitFlag := true, lastDir := dir }) ∧
        (st.state ≠ .off → ¬ illegal → accepted → index ≤ limit → index < -limit →
          t.steer = after { st with state := .referenced, count := -limit, limitFlag := true, lastDir := dir }) ∧
        (st.state ≠ .off → ¬ illegal → ¬ accepted → ¬ forward → ¬ backward → t.steer = after st) ∧
        (st.state ≠ .off → ¬ accepted → forward ∨ backward → -limit ≤ st.count + amount → st.count + amount ≤ limit →
          t.steer = after { st with count := st.count + amount, lastDir := dir }) ∧
        (st.state ≠ .off → ¬ accepted → forward ∨ backward → -limit ≤ st.count → st.count ≤ limit →
          (st.count + amount < -limit ∨ limit < st.count + amount) →
          t.steer = after { st with limitFlag := true, lastDir := dir }))

/-! The camera path -/

/-- A frame sync ends the frame being measured, which is good within 4 lines of the nominal period, and begins the next
(R92); the camera state and its counts follow Table 6-3 with a CAMERA notice for each change (R93); in LOCKED, and at the
sync that reaches it, it is a camera output frame start, and the sync that ends a second bad frame loses lock and starts the
free-run timer instead (R95). The watch restarts with 1.5 times the interval of the descriptor then latched (R94). A frame
sync and a line sync on one clock: log 14; that line sync is judged by the sync guard latched before the frame sync (log 31),
and at exactly the guard's distance it is ignored (log 13). The CAMERA notice comes before those of the frame start (log
12). -/
def Obligations.FrameSyncFollowsCamera : Prop :=
  ∀ (s : State) (hs : Option Nat), s.held = none →
    let c := s.camera
    let line := match hs with
      | some clocks => !c.synced || decide (c.latched.nat 6 < clocks)
      | none => false
    let good (n : Nat) : Prop := c.latched.nat 1 ≤ n + 4 ∧ n ≤ c.latched.nat 1 + 4
    let base : CameraInput := { c with measured := some (if line then 1 else 0), line := 0, synced := c.synced || line }
    let with_ (x : CameraInput) : State := { s with camera := x }
    let watched (u : State) : State := { u with camera := { u.camera with watch := some (u.camera.latched.nat 7 * 3 / 2) } }
    let started (u : State) : Result := .next (watched u.cameraFrameStart)
    let answer := exec (.frameSync hs) s
    (c.state = .noSignal → answer = .next
      (watched (State.offerNotice (with_ { base with state := .acquiring, good := 0 }) .camera 0 1))) ∧
    (c.state = .acquiring → c.measured = none → answer = .next (watched (with_ base))) ∧
    (∀ n, c.state = .acquiring → c.measured = some n →
      (¬ good n → answer = .next (watched (with_ { base with good := 0 }))) ∧
      (good n → c.good < 2 → answer = .next (watched (with_ { base with good := c.good + 1 }))) ∧
      (good n → 2 ≤ c.good → answer = started (State.offerNotice (with_ { base with
        state := .locked, good := c.good + 1, bad := 0, freeRun := none, lineSeen := line }) .camera 0 2))) ∧
    (c.state = .locked → c.measured = none → answer = started (with_ { base with lineSeen := line })) ∧
    (∀ n, c.state = .locked → c.measured = some n →
      (good n → answer = started (with_ { base with lineSeen := line, bad := 0 })) ∧
      (¬ good n → c.bad = 0 → answer = started (with_ { base with lineSeen := line, bad := 1 })) ∧
      (¬ good n → 1 ≤ c.bad → answer = .next (watched (State.offerNotice (with_ { base with
        lineSeen := line, bad := c.bad + 1, state := .acquiring, good := 0, frame := none
        freeRun := some (c.latched.nat 7) }) .camera 0 1))))

/-- A line sync within the sync guard of the last accepted one is ignored; an accepted one begins the next line, counts in
the frame being measured, sets the line-seen flag in LOCKED and restarts the watch in ACQUIRING (R92, R94). The watch that
expires loses lock, to ACQUIRING with line syncs seen and to NO_SIGNAL without, with the rest of the frame's rows to come as
fill and the free-run timer started (R95, R96). That the guard's last clock is ignored is log 13; a watch that does not run
does not expire (log 3). -/
def Obligations.LineSyncAndWatch : Prop :=
  ∀ s : State, s.held = none →
    let c := s.camera
    let with_ (x : CameraInput) : State := { s with camera := x }
    let period := c.latched.nat 7 * 3 / 2
    let accepted (clocks : Nat) : Prop := c.synced = false ∨ c.latched.nat 6 < clocks
    let filled : Option CameraFrame := c.frame.map fun f => if f.kind = .camera then ⟨.fill, f.nextRow⟩ else f
    (∀ clocks, ¬ accepted clocks → exec (.lineSync clocks) s = .next s) ∧
    (∀ clocks, accepted clocks → exec (.lineSync clocks) s = .next (with_ { c with
      synced := true
      line := c.line + 1
      measured := c.measured.map (· + 1)
      lineSeen := if c.state = .locked then true else c.lineSeen
      watch := if c.state = .acquiring then some period else c.watch })) ∧
    (c.watch = none ∨ c.state = .noSignal → exec .syncWatchExpiry s = .next s) ∧
    (c.watch ≠ none → c.state = .acquiring → exec .syncWatchExpiry s = .next (State.offerNotice (with_ { c with
      state := .noSignal, measured := none, watch := none }) .camera 0 0)) ∧
    (c.watch ≠ none → c.state = .locked → c.lineSeen = false → exec .syncWatchExpiry s = .next (State.offerNotice
      (with_ { c with state := .noSignal, measured := none, watch := none, frame := filled
                      freeRun := some (c.latched.nat 7) }) .camera 0 0)) ∧
    (c.watch ≠ none → c.state = .locked → c.lineSeen = true → exec .syncWatchExpiry s = .next (State.offerNotice
      (with_ { c with state := .acquiring, good := 0, measured := none, watch := some period, frame := filled
                      freeRun := some (c.latched.nat 7) }) .camera 0 1))

/-- What each block makes of a camera output frame start (R95): the CAMERA exchange (R37) and the camera bank loaded flag
(R102), the frame capture (R87), the hold (R105), the latched descriptor (R91), the frame in progress, the guide record with
its flags (R111, R119), behind the records of frames with rows still in the buffer (log 16), and the frame's upstream
mark (R103). Frames are numbered by the model (log 18). GROUP comes before REVERSE (log 12, R40 lets either come first), and
the expiry of a stopped free-run timer changes nothing (log 3). An expiry of the free-run timer is one, and restarts the
timer (R95). -/
def Obligations.CameraFrameStartActs : Prop :=
  (∀ s : State, s.held = none →
    (s.camera.freeRun = none → exec .freeRunExpiry s = .next s) ∧
    (s.camera.freeRun ≠ none → exec .freeRunExpiry s = .next { s.cameraFrameStart with
      camera := { s.cameraFrameStart.camera with freeRun := some (s.cameraFrameStart.camera.latched.nat 7) } })) ∧
  ∀ s : State,
    let t := s.cameraFrameStart
    let g := s.tables.camera
    let swap := decide (g.state = .swapPending)
    let g' : Group := match g.state with
      | .idle => g
      | .swapPending => ⟨g.active, g.staging, .copying⟩
      | .copying => ⟨g.active, g.active, .idle⟩
    let loaded : RearView := { s.rear with bankLoaded := s.rear.bankLoaded || swap }
    let view := if swap then loaded.viewOf else s.rear.actual
    let cause := s.guide.holdRequest || s.rear.calPin.level
    let hold : HoldState := if s.guide.hold = .holdRequested ∨ s.guide.hold = .releaseRequested
      then (if cause then .held else .free) else s.guide.hold
    let frozen := hold = .held ∧ swap = false
    let locked := s.camera.state = .locked
    let queue := if view = s.rear.actual then s.rear.queue else []
    let no := s.camera.frameNo + 1
    let mark : UpPicture := .mark .camera s.rear.camTag (t.camera.latched.nat 4) (t.camera.latched.nat 5)
    t = { s with
      tables := { s.tables with camera := g', stats := t.tables.stats }
      steer := { s.steer with capCount := s.steer.count, capState := s.steer.state }
      guide := { s.guide with hold := hold, records := t.guide.records }
      camera := { s.camera with
        latched := t.camera.latched
        frameNo := no
        frame := some ⟨if locked then .camera else .generated, 0⟩ }
      rear := { loaded with actual := view, camFlag := t.rear.camFlag, camTag := t.rear.camTag, queue := t.rear.queue }
      mirror := if view = s.rear.actual then s.mirror else { s.mirror with frame := none }
      notices := t.notices } ∧
    (frozen ∨ descriptorFailure g'.active ≠ none → t.camera.latched = s.camera.latched) ∧
    (¬ frozen → descriptorFailure g'.active = none → ∀ i, i ≤ 28 → t.camera.latched.read i = g'.active.read i) ∧
    (∃ rec, t.guide.records.getLast? = some rec ∧
      t.guide.records = (s.guide.records.filter fun r => s.camera.buffer.any fun row => decide (row.frame = r.frame)) ++
        [rec] ∧ rec.frame = no ∧ rec.width = t.camera.latched.nat 4 ∧
      rec.height = t.camera.latched.nat 5 ∧ (rec.valid = true ↔ guideFailure rec.fields rec.height = none) ∧
      (¬ frozen → ∀ i, 32 ≤ i → i ≤ 401 → rec.fields.read i = g'.active.read i) ∧
      (∀ old, frozen → s.guide.records.getLast? = some old → rec.fields = old.fields) ∧
      (let draws := locked ∧ hold ≠ .held ∧ rec.valid = true
       (rec.drawFixed = true ↔ draws ∧ rec.fields.nat 32 = 1) ∧
       (rec.drawTraj = true ↔ draws ∧ rec.fields.nat 33 = 1 ∧ s.steer.state = .referenced) ∧
       (rec.drawBars = true ↔ draws ∧ rec.fields.nat 34 = 1)) ∧
      (rec.valid = true →
        rec.left = trajShape rec.fields s.steer.count 0 ∧ rec.right = trajShape rec.fields s.steer.count 9)) ∧
    (swap = false → t.notices = s.notices) ∧
    (swap = true → view = s.rear.actual → t.notices = (s.offerNotice .group 0 2).notices) ∧
    (swap = true → view ≠ s.rear.actual → t.notices =
      ((s.offerNotice .group 0 2).offerNotice .reverse 0 (Word.ofBytes s.rear.reverse.code view.code)).notices) ∧
    (view ≠ .camera → t.rear.camFlag = none ∧ t.rear.camTag = s.rear.camTag ∧ t.rear.queue = queue ∧
      t.tables.stats = s.tables.stats) ∧
    (view = .camera → t.rear.camFlag = some ⟨no, s.rear.camTag⟩ ∧ t.rear.camTag = s.rear.camTag + 1 ∧
      (s.link.up = true → queue.length < 4 → t.rear.queue = queue ++ [mark] ∧ t.tables.stats = s.tables.stats) ∧
      (s.link.up = true → 4 ≤ queue.length → t.rear.queue = queue ∧ t.tables.stats = (s.bump 15 1).tables.stats) ∧
      (s.link.up = false → t.rear.queue = queue ∧ t.tables.stats = (s.bump 2 1).tables.stats))

/-- A camera row of a frame that began in LOCKED takes its columns from the pixels of its line at the active start pixel and
after, with fill in the columns the line did not reach; a fill row
after a loss of lock and a generated row of a free-running frame take the fill colour, the latter with the message over it
(R96, R97). The row joins the camera line buffer while it holds fewer than 4 rows, and is dropped and counted otherwise
(R98). A row that is not due changes nothing (log 3); camera rows belong to the present line (log 13); colours and tiles are
read when the row is completed (log 28). -/
def Obligations.CameraRowsComplete : Prop :=
  ∀ s : State, s.held = none →
    let c := s.camera
    let width := c.latched.nat 4
    let height := c.latched.nat 5
    let fill := refColour s.tables.palettes (c.latched.nat 8)
    let completed (kind : RowKind) (y : Nat) (pixels : List Rgb) : State :=
      let moved : CameraInput := { c with frame := some ⟨kind, y + 1⟩ }
      if c.buffer.length < 4 then { s with camera := { moved with buffer := c.buffer ++ [⟨c.frameNo, y, kind, pixels⟩] } }
      else { s with camera := moved, tables := (s.bump 14 1).tables }
    (∀ pixels y next, c.frame = some ⟨.camera, next⟩ → c.line = c.latched.nat 3 + y → y < height → next ≤ y →
      ∃ row : List Rgb, exec (.cameraRow pixels) s = .next (completed .camera y row) ∧ row.length = width ∧
        ∀ x, x < width → row.getD x Rgb.black = pixels.getD (c.latched.nat 2 + x) fill) ∧
    (∀ y, c.frame = some ⟨.fill, y⟩ → y < height →
      exec .fillRow s = .next (completed .fill y (List.replicate width fill))) ∧
    (∀ y, c.frame = some ⟨.generated, y⟩ → y < height →
      exec .generatedRow s = .next (completed .generated y ((List.range width).map fun x =>
        if c.latched.nat 11 ≤ y ∧ y < c.latched.nat 11 + 16 ∧ c.latched.nat 10 ≤ x ∧
            x < c.latched.nat 10 + 16 * c.latched.nat 9 then
          tileOver s.tables.tiles s.tables.palettes (c.latched.nat (13 + (x - c.latched.nat 10) / 16)) (c.latched.nat 12)
            (y - c.latched.nat 11) ((x - c.latched.nat 10) % 16) fill
        else fill))) ∧
    (∀ pixels, c.rowDue = none → exec (.cameraRow pixels) s = .next s) ∧
    ((∀ y, c.frame = some ⟨.fill, y⟩ → height ≤ y) → exec .fillRow s = .next s) ∧
    ((∀ y, c.frame = some ⟨.generated, y⟩ → height ≤ y) → exec .generatedRow s = .next s)

/-- ROW_DRAWN completes: the oldest buffered row leaves the buffer, drawn by the record of its own frame, and goes upstream as
a picture line if it belongs to the flagged frame, and is discarded otherwise (R98, R103, R111, R120); an empty buffer is
left as it is (log 3). A row without a record is handed on unchanged; no run has one (log 16). Drawing keeps the row's width,
leaves rows outside the band, rows of an invalid record and rows that are not camera rows as they are, and blends the covers
from the bottom up (R118). -/
def Obligations.RowDrawnGoesUpstream : Prop :=
  (∀ s : State, s.held = none →
    (s.camera.buffer = [] → exec .rowDrawn s = .next s) ∧
    ∀ row rest, s.camera.buffer = row :: rest →
      let popped : State := { s with camera := { s.camera with buffer := rest } }
      let pixels := (s.guide.draw row).pixels
      (∀ f, s.rear.camFlag = some f → f.frame = row.frame →
        exec .rowDrawn s = .next (popped.offerPicture (.line .camera f.tag row.number pixels))) ∧
      ((∀ f, s.rear.camFlag = some f → f.frame ≠ row.frame) → exec .rowDrawn s = .next popped) ∧
      ∀ f r, s.rear.camFlag = some f → f.frame = row.frame → r ∈ s.guide.records → r.frame = row.frame →
        (∀ x ∈ s.guide.records, x.frame = row.frame → x = r) →
        exec .rowDrawn s = .next (popped.offerPicture (.line .camera f.tag row.number (r.drawRow row).pixels))) ∧
  (∀ (g : GuideOverlay) (row : CameraRow) (r : GuideRecord), r ∈ g.records → r.frame = row.frame →
    (∀ x ∈ g.records, x.frame = row.frame → x = r) → g.draw row = r.drawRow row) ∧
  (∀ (g : GuideOverlay) (row : CameraRow), (∀ r ∈ g.records, r.frame ≠ row.frame) → g.draw row = row) ∧
  (∀ (r : GuideRecord) (row : CameraRow),
    let top := r.fields.nat 35
    let bottom := r.fields.nat 36
    let u := bottom - row.number
    let t := r.drawRow row
    let lines (left right : List Int) (x : Nat) : Bool := linesCover r.fields left right u x
    t = { row with pixels := t.pixels } ∧ t.pixels.length = row.pixels.length ∧
    (row.kind ≠ .camera ∨ r.valid = false ∨ row.number < top ∨ bottom < row.number → t = row) ∧
    (row.kind = .camera → r.valid = true → top ≤ row.number → row.number ≤ bottom → ∀ x p, row.pixels[x]? = some p →
      let p1 := if r.drawFixed && lines (shapeAt r.fields 72) (shapeAt r.fields 81) x
        then (paintOf (r.fields.read 44) (r.fields.read 45)).over p else p
      let p2 := if r.drawTraj && lines r.left r.right x then (zonePaint r.fields u).over p1 else p1
      let p3 := if r.drawBars && r.barCovers u x then (paintOf (r.fields.read 52) (r.fields.read 53)).over p2 else p2
      t.pixels[x]? = some p3)) ∧
  ∀ (s : State) (p : UpPicture),
    (s.link.up = true → s.rear.queue.length < 4 → s.offerPicture p = { s with rear := { s.rear with queue := s.rear.queue ++ [p] } }) ∧
    (s.link.up = true → 4 ≤ s.rear.queue.length → s.offerPicture p = s.bump 15 1) ∧
    (s.link.up = false → s.offerPicture p = s.bump 2 1)

/-! Guide lines -/

/-- The key and weight for a captured count (R112), and the frame shape between the two keys (R113): with the keys strictly
rising, the end keys are used alone, a key at the count is used exactly, and every other position lies between its two keys'
positions. -/
def Obligations.GuideShapeFollowsCount : Prop :=
  (∀ (t : Table) (c : Int), 2 ≤ t.nat 37 →
    (∀ i j, i < j → j < t.nat 37 → t.int (54 + i) < t.int (54 + j)) →
    (c ≤ t.int 54 → keyAndWeight t c = (0, none)) ∧
    (t.int (54 + (t.nat 37 - 1)) ≤ c → keyAndWeight t c = (t.nat 37 - 1, none)) ∧
    (∀ j, j + 1 < t.nat 37 → t.int 54 < c → t.int (54 + j) ≤ c → c < t.int (54 + (j + 1)) →
      let w := (256 * (c - t.int (54 + j))).fdiv (t.int (54 + (j + 1)) - t.int (54 + j))
      keyAndWeight t c = (j, some w) ∧ 0 ≤ w ∧ w ≤ 255)) ∧
  (∀ (t : Table) (c : Int) (side k : Nat), side = 0 ∨ side = 9 → k < 9 →
    (∀ j, keyAndWeight t c = (j, none) → (trajShape t c side).getD k 0 = t.int (96 + 18 * j + side + k)) ∧
    (∀ j w, keyAndWeight t c = (j, some w) → 0 ≤ w → w ≤ 255 →
      let x := t.int (96 + 18 * j + side + k)
      let y := t.int (96 + 18 * (j + 1) + side + k)
      (trajShape t c side).getD k 0 = x + ((y - x) * w + 128).fdiv 256 ∧
      min x y ≤ (trajShape t c side).getD k 0 ∧ (trajShape t c side).getD k 0 ≤ max x y)) ∧
  ∀ (t : Table) (c : Int) (side : Nat), (trajShape t c side).length = 9 ∧ (fixedShape t side).length = 9 ∧
    ∀ k, k < 9 → (fixedShape t side).getD k 0 = t.int (72 + side + k)

/-- A line's position on a band row lies between the two control rows of its segment, and is the control row's own position
at each of them (R114); its width falls from the near width to the far width and never rises with the offset, and its span
covers that many columns around the centre (R115). A distance bar covers, on the rows of its thickness, the columns from the
left line's span start to the right line's span end (R117). A segment is an eighth of the band (R108); lines of a kind cover
a column that the left or the right span holds, and the trajectory lines take the zone colour of the row's offset (R116). -/
def Obligations.GuideLinesCover : Prop :=
  (∀ (shape : List Int) (h : Nat), 1 ≤ h → h % 2 = 0 →
    (∀ k, k < 8 → linePosition shape h (k * h) = shape.getD k 0) ∧
    linePosition shape h (8 * h) = shape.getD 8 0 ∧
    ∀ k v, k < 8 → v < h →
      linePosition shape h (k * h + v) =
        shape.getD k 0 + ((shape.getD (k + 1) 0 - shape.getD k 0) * v + (h / 2 : Nat)).fdiv h ∧
      min (shape.getD k 0) (shape.getD (k + 1) 0) ≤ linePosition shape h (k * h + v) ∧
      linePosition shape h (k * h + v) ≤ max (shape.getD k 0) (shape.getD (k + 1) 0)) ∧
  (∀ t : Table, t.nat 35 < t.nat 36 → t.nat 39 ≤ t.nat 38 →
    lineWidth t 0 = t.nat 38 ∧ lineWidth t (t.nat 36 - t.nat 35) = t.nat 39 ∧
    (∀ u, lineWidth t u = t.nat 38 - (t.nat 38 - t.nat 39) * u / (t.nat 36 - t.nat 35)) ∧
    ∀ u v, u ≤ v → v ≤ t.nat 36 - t.nat 35 →
      lineWidth t v ≤ lineWidth t u ∧ t.nat 39 ≤ lineWidth t v ∧ lineWidth t u ≤ t.nat 38) ∧
  (∀ (t : Table) (shape : List Int) (u : Nat),
    let centre := (linePosition shape (segmentHeight t) u).fdiv 4
    (lineSpan t shape u).first = centre - (lineWidth t u / 2 : Nat) ∧
    (lineSpan t shape u).last - (lineSpan t shape u).first + 1 = lineWidth t u ∧
    ∀ x : Nat, (lineSpan t shape u).covers x = true ↔
      (lineSpan t shape u).first ≤ x ∧ (x : Int) ≤ (lineSpan t shape u).last) ∧
  (∀ t : Table, segmentHeight t = (t.nat 36 - t.nat 35) / 8) ∧
  (∀ (t : Table) (left right : List Int) (u x : Nat), linesCover t left right u x = true ↔
    ∃ shape, (shape = left ∨ shape = right) ∧ (lineSpan t shape u).first ≤ x ∧ (x : Int) ≤ (lineSpan t shape u).last) ∧
  (∀ (t : Table) (u : Nat), t.nat 40 < t.nat 41 →
    (u ≤ t.nat 40 → zonePaint t u = paintOf (t.read 46) (t.read 47)) ∧
    (t.nat 40 < u → u ≤ t.nat 41 → zonePaint t u = paintOf (t.read 48) (t.read 49)) ∧
    (t.nat 41 < u → zonePaint t u = paintOf (t.read 50) (t.read 51))) ∧
  (∀ w0 w1 : Word, (paintOf w0 w1).opacity = min (w0.toNat / 256) 4 ∧ (paintOf w0 w1).colour.r.toNat = w0.toNat % 256 ∧
    (paintOf w0 w1).colour.g.toNat = w1.toNat / 256 ∧ (paintOf w0 w1).colour.b.toNat = w1.toNat % 256) ∧
  ∀ (r : GuideRecord) (u x : Nat),
    let left := if r.drawTraj then r.left else shapeAt r.fields 72
    let right := if r.drawTraj then r.right else shapeAt r.fields 81
    r.barCovers u x = true ↔
      (∃ i, i < 3 ∧ r.fields.nat (40 + i) ≤ u ∧ u < r.fields.nat (40 + i) + r.fields.nat 43) ∧
      (lineSpan r.fields left u).first ≤ x ∧ (x : Int) ≤ (lineSpan r.fields right u).last

/-! Sound -/

/-- A sample tick settles each outlet's source with its ROUTE word, moves the ramped gain toward the volume gain, or toward 0
while a new source waits, and takes that source at silence (R147, R148); the duck value falls and rises toward the lowest of
its targets (R149). Every other part of an outlet changes only in its output frame. Each voice moves on by one sample, with
the release step of MIXER word 34 (R150, R154, R155), and nothing else of the Chime Engine changes at the tick. Ends of
voices that are due come first, each voice freed taking its candidate, lowest-numbered first (log 8). -/
def Obligations.TickMovesOutlets : Prop :=
  ∀ s : State, s.held = none → ∃ t, exec .sampleTick s = .next t ∧
    t = { s with
      outlets := t.outlets, rings := t.rings, notices := t.notices, chimes := t.chimes
      tables := { s.tables with stats := t.tables.stats } } ∧
    (let ended := [VoiceId.v0, .v1, .v2].foldl (fun (e : ChimeEngine) v =>
        if ((e.voices.get v).bind fun z => z.due) = none then e
        else ChimeEngine.takeCandidate { e with voices := e.voices.set v none } s.tables.chimes v) s.chimes
     ended = s.chimes.settleEnds s.tables.chimes ∧ t.chimes = { ended with voices := t.chimes.voices } ∧
     ∀ v, t.chimes.voices.get v =
       (ended.voices.get v).map fun z => z.tick s.tables.chimes (s.tables.mixer.nat 34)) ∧
    ∀ o, let x := s.outlets.get o
      let y := t.outlets.get o
      let k := match o with
        | .zoneA => 0
        | .zoneB => 1
        | .cabin => 2
      let word := s.tables.route.read (2 + k)
      let m := s.tables.mixer.nat
      let route := if h : word.toNat < 4 then some (⟨word.toNat, h⟩ : Prog) else none
      let wait : Option (Option Prog) := if x.pending = none ∧ route = x.current then none else some route
      let target := if wait = none then m (m (21 + k)) else 0
      let voices := s.chimes.settleEnds s.tables.chimes
      let ducked := ∃ v z, voices.voices.get v = some z ∧ (chimeDesc s.tables.chimes z.chime).duck = true ∧
        (chimeDesc s.tables.chimes z.chime).names o = true
      (x.gain < target → y.gain = min target (x.gain + m 31)) ∧
      (target ≤ x.gain → y.gain = max target (x.gain - m 31)) ∧
      (wait = none → y.current = x.current ∧ y.pending = none) ∧
      (wait ≠ none → y.gain = 0 → y.current = route ∧ y.pending = none) ∧
      (wait ≠ none → y.gain ≠ 0 → y.current = x.current ∧ y.pending = some route) ∧
      ∀ c d, (ducked → c = m 27) → (¬ ducked → c = 32768) →
        d = min 32768 (min c (if s.rear.reverse = .on then m (28 + k) else 32768)) →
        (x.duck < d → y.duck = min d (x.duck + m 33)) ∧ (d ≤ x.duck → y.duck = max d (x.duck - m 32))

/-- Each programme's ring follows its claim at a sample tick (R141): unclaimed it is UNROUTED and empty, newly claimed it is
PRIMING and empty; a PLAYING one gives its oldest frame, or underruns to PRIMING with its count and its SOUND notice (R143,
R144), one for each programme that starves, offered in programme order (log 12). Claims are judged after the outlets have
settled their sources. -/
def Obligations.TickRunsRings : Prop :=
  ∀ s t : State, s.held = none → s.tables.stats.wf = true → exec .sampleTick s = .next t →
    (∀ p : Prog,
      let claimed := s.unit.service = .media ∧
        ∃ o, (t.outlets.get o).current = some p ∨ (t.outlets.get o).pending = some (some p)
      let r := s.rings.get p
      (¬ claimed → t.rings.get p = ⟨.unrouted, []⟩ ∧ t.counter (20 + p.val) = s.counter (20 + p.val)) ∧
      (claimed → r.state = .unrouted → t.rings.get p = ⟨.priming, []⟩ ∧ t.counter (20 + p.val) = s.counter (20 + p.val)) ∧
      (claimed → r.state = .priming → t.rings.get p = r ∧ t.counter (20 + p.val) = s.counter (20 + p.val)) ∧
      (∀ f rest, claimed → r = ⟨.playing, f :: rest⟩ →
        t.rings.get p = ⟨.playing, rest⟩ ∧ t.counter (20 + p.val) = s.counter (20 + p.val)) ∧
      (claimed → r = ⟨.playing, []⟩ → t.rings.get p = ⟨.priming, []⟩ ∧
        t.counter (20 + p.val) = min (s.counter (20 + p.val) + 1) 65535)) ∧
    t.notices = (([0, 1, 2, 3] : List Prog).foldl (fun (u : State) p =>
      if s.rings.get p = ⟨.playing, []⟩ ∧ (t.rings.get p).state = .priming
      then u.offerNotice .sound (BitVec.ofNat 16 p.val) 1 else u) s).notices

/-- The output frame of an outlet at a tick (R151): the source's sample times the programme gain, plus each voice that names
the outlet, each scaled and rounded, divided by 32,768 and saturated; a saturated channel is counted in CLIP. The programme
gain never exceeds the volume gain and the sum never leaves 40 bits (log 27). The serial data pins send each outlet's output
frame in the sample period after the tick, left sample first, with the sample clocks at 48,000 Hz, and silence from reset
release to the first tick (R150); that no clock runs while a reset holds the part is the model's choice (log 33). Ends of
voices that are due come first (log 8). -/
def Obligations.TickMixesWithinRange : Prop :=
  (∀ s t : State, s.held = none → s.tables.stats.wf = true → exec .sampleTick s = .next t → ∀ o,
    let y := t.outlets.get o
    let k := match o with
      | .zoneA => 0
      | .zoneB => 1
      | .cabin => 2
    let frame := match y.current with
      | some p => if (s.rings.get p).state = SoundState.playing ∧ s.unit.service = Service.media then (s.rings.get p).frames.headD Stereo.silence
        else Stereo.silence
      | none => Stereo.silence
    let voices := (s.chimes.settleEnds s.tables.chimes).voices
    let term := voiceTerm s.tables.chimes s.tables.waves o (s.tables.mixer.nat (24 + k))
    let sum := term voices.v0 + term voices.v1 + term voices.v2
    let g := ((y.gain : Int) * y.duck + 16384).fdiv 32768
    let left := (frame.left.toInt * g + sum + 16384).fdiv 32768
    let right := (frame.right.toInt * g + sum + 16384).fdiv 32768
    y.out.left.toInt = max (-32768) (min 32767 left) ∧ y.out.right.toInt = max (-32768) (min 32767 right) ∧
      t.counter (24 + k) = min (s.counter (24 + k) + (if left < -32768 ∨ 32767 < left then 1 else 0) +
        (if right < -32768 ∨ 32767 < right then 1 else 0)) 65535) ∧
  (∀ (chimes waves : Table) (o : Outlet) (gain : Nat), voiceTerm chimes waves o gain none = 0 ∧
    ∀ z : Voice,
      ((chimeDesc chimes z.chime).names o = false → voiceTerm chimes waves o gain (some z) = 0) ∧
      ((chimeDesc chimes z.chime).names o = true → voiceTerm chimes waves o gain (some z) =
        (waves.int (z.address chimes) * z.level + 16384).fdiv 32768 * gain)) ∧
  (∀ s : State,
    let o := s.outlets
    let clock := if s.held = none then some 48000 else none
    s.soundPins = ⟨clock, clock, [o.zoneA.out.left, o.zoneA.out.right], [o.zoneB.out.left, o.zoneB.out.right],
      [o.cabin.out.left, o.cabin.out.right]⟩ ∧
    (s.held ≠ none → ∀ stn autocam, ∃ t, exec (.resetRelease stn autocam) s = .next t ∧
      t.soundPins = ⟨some 48000, some 48000, [0, 0], [0, 0], [0, 0]⟩)) ∧
  (∀ x : OutletState, x.sound = true → 0 ≤ programmeGain x ∧ programmeGain x ≤ x.gain) ∧
  ∀ (x : OutletState) (sample : Word) (chimes waves : Table) (o : Outlet) (gain : Nat) (u v w : Option Voice),
    x.sound = true → gain ≤ 32768 → (∀ z, u = some z ∨ v = some z ∨ w = some z → z.level ≤ 32768) →
    let term := voiceTerm chimes waves o gain
    let sum := channelSum x sample (term u + term v + term w)
    sum < 2 ^ 39 ∧ -(2 ^ 39) ≤ sum

/-! Notices -/

/-- Cabin time rises by 1 each millisecond and goes on at 0 after its top (R39). A state notice that is enabled replaces the
record of its source where it stands, with the present time, or joins the tail; a disabled one is dropped (R40). No queue
whose records come from the sources of Table 2-8 holds more than 16. -/
def Obligations.CabinTimeAndNotices : Prop :=
  (∀ s : State, s.held = none →
    ∃ t, exec .cabinTimeTick s = .next t ∧ t = { s with notices := { s.notices with time := t.notices.time } } ∧
      t.notices.time.toNat = (if s.notices.time.toNat = 4294967295 then 0 else s.notices.time.toNat + 1)) ∧
  (∀ (s : State) (kind : NoticeKind) (detail value : Word),
    let q := s.notices
    let t := s.offerNotice kind detail value
    let enabled := s.tables.control.nat (match kind with
      | .select => 0
      | .route => 1
      | .group => 2
      | .camera => 3
      | .steer => 4
      | .reverse => 5
      | .picture => 6
      | .sound => 7
      | .link => 8) = 1
    t = { s with notices := { q with records := t.notices.records } } ∧
    (¬ enabled → t = s) ∧
    (enabled → (∀ n ∈ q.records, ¬ (n.kind = kind ∧ n.detail = detail)) →
      t.notices.records = q.records ++ [⟨kind, detail, value, q.time⟩]) ∧
    (∀ before n after, enabled → q.records = before ++ n :: after → n.kind = kind → n.detail = detail →
      (∀ m ∈ before ++ after, ¬ (m.kind = kind ∧ m.detail = detail)) →
      t.notices.records = before ++ ⟨kind, detail, value, q.time⟩ :: after)) ∧
  ∀ q : NoticeQueue, q.sound = true → q.records.length ≤ 16

/-! Invariants -/

/-- The part right after reset satisfies every invariant that the statements below say a step keeps. -/
def Obligations.ResetSatisfiesInvariants : Prop :=
  let s := State.reset
  (s.tables.fits = true ∧ s.tables.legal = true ∧ s.countSound = true ∧ s.notices.sound = true) ∧
  (s.linkSound = true ∧ s.viewSound = true ∧ s.holdSound = true ∧ s.camera.sound true = true ∧ s.restSound = true) ∧
  (∀ d, (s.disp.get d).storeSound = true ∧ (s.menus.get d).sound = true) ∧ (∀ p, (s.rings.get p).sound = true) ∧
  (∀ o, (s.outlets.get o).sound = true) ∧
  (s.chimes.sound = true ∧ s.chimes.admits s.tables.chimes = true ∧ queueOrdered s.tables.chimes s.chimes.queue = true) ∧
  s.unit.sound = true

/-- Every step keeps every table in canonical form within its size, with a legal value in every checked word (R21, R23,
Table 2-2), and the steering count within the present limit (R82). -/
def Obligations.StepKeepsTables : Prop :=
  ∀ s t : State, s.tables.fits = true → s.tables.legal = true → s.countSound = true → step s = .next t →
    t.tables.fits = true ∧ t.tables.legal = true ∧ t.countSound = true

/-- Every step keeps the upstream side in order: while the link is DOWN nothing waits in the reply slot or the picture queue
(R12); the actual view is the one its inputs give, the queued pictures and the flags belong to it, and at most 4 wait (R102,
R103, R104). -/
def Obligations.StepKeepsLinkAndView : Prop :=
  ∀ s t : State, s.linkSound = true → s.viewSound = true → step s = .next t → t.linkSound = true ∧ t.viewSound = true

/-- Every step keeps the media side at rest while the service state is CAMERA_ONLY: displays stopped, menus closed, rings
empty, formats clear and both COMPOSE groups IDLE (R24, R27, Table 0-2). -/
def Obligations.StepKeepsMediaAtRest : Prop :=
  ∀ s t : State, s.restSound = true → step s = .next t → t.restSound = true

/-- Every step keeps the Chime Engine in order: a chime number appears at most once among voices, suspend list and pending
queue, which stay within their sizes (R153); the pending queue stays ordered by priority (R158); and no voice is SOUNDING a
chime below the admission level (R160). -/
def Obligations.StepKeepsChimesRanked : Prop :=
  ∀ s t : State, s.tables.fits = true → s.chimes.sound = true → s.chimes.admits s.tables.chimes = true →
    queueOrdered s.tables.chimes s.chimes.queue = true → step s = .next t →
    t.chimes.sound = true ∧ t.chimes.admits t.tables.chimes = true ∧ queueOrdered t.tables.chimes t.chimes.queue = true

/-- Every step keeps the line stores within 16 slots without a line twice (R47), the hold state with its causes (R105), the
camera state with its counts, timers and frame (R93 to R96), the page stacks within 6 (R127), the rings within 512 frames
(R140) and the outlets' gains within unity (R146), the notice queue within one record for each state source and 2 SELECT records (R38,
R40, R41), and the request queue within 8 (R16). -/
def Obligations.StepKeepsBlocksSound : Prop :=
  ∀ s t : State, s.tables.fits = true → s.tables.legal = true → step s = .next t →
    ((∀ d, (s.disp.get d).storeSound = true) → ∀ d, (t.disp.get d).storeSound = true) ∧
    (s.holdSound = true → t.holdSound = true) ∧ (s.notices.sound = true → t.notices.sound = true) ∧
    (s.unit.sound = true → t.unit.sound = true) ∧
    (s.camera.sound s.held.isNone = true → t.camera.sound t.held.isNone = true) ∧
    ((∀ d, (s.menus.get d).sound = true) → ∀ d, (t.menus.get d).sound = true) ∧
    ((∀ p, (s.rings.get p).sound = true) → ∀ p, (t.rings.get p).sound = true) ∧
    ((∀ o, (s.outlets.get o).sound = true) → ∀ o, (t.outlets.get o).sound = true)

end Statements
end

