-- ==== Sys2Proof/Laws/State.lean ====
section
/-! SUPPORT. What each named update leaves as it was, field by field, and what it puts into the field it changes. -/

namespace Sys2Proof.Machine

open Sys2Proof

/-! `State.bump` changes tables only. -/

@[simp] theorem State.bump_held (s : State) (i n : Nat) : (s.bump i n).held = s.held := rfl
@[simp] theorem State.bump_link (s : State) (i n : Nat) : (s.bump i n).link = s.link := rfl
@[simp] theorem State.bump_unit (s : State) (i n : Nat) : (s.bump i n).unit = s.unit := rfl
@[simp] theorem State.bump_notices (s : State) (i n : Nat) : (s.bump i n).notices = s.notices := rfl
@[simp] theorem State.bump_formats (s : State) (i n : Nat) : (s.bump i n).formats = s.formats := rfl
@[simp] theorem State.bump_disp (s : State) (i n : Nat) : (s.bump i n).disp = s.disp := rfl
@[simp] theorem State.bump_mirror (s : State) (i n : Nat) : (s.bump i n).mirror = s.mirror := rfl
@[simp] theorem State.bump_steer (s : State) (i n : Nat) : (s.bump i n).steer = s.steer := rfl
@[simp] theorem State.bump_camera (s : State) (i n : Nat) : (s.bump i n).camera = s.camera := rfl
@[simp] theorem State.bump_guide (s : State) (i n : Nat) : (s.bump i n).guide = s.guide := rfl
@[simp] theorem State.bump_rear (s : State) (i n : Nat) : (s.bump i n).rear = s.rear := rfl
@[simp] theorem State.bump_menus (s : State) (i n : Nat) : (s.bump i n).menus = s.menus := rfl
@[simp] theorem State.bump_rings (s : State) (i n : Nat) : (s.bump i n).rings = s.rings := rfl
@[simp] theorem State.bump_outlets (s : State) (i n : Nat) : (s.bump i n).outlets = s.outlets := rfl
@[simp] theorem State.bump_chimes (s : State) (i n : Nat) : (s.bump i n).chimes = s.chimes := rfl
@[simp] theorem State.bump_pending (s : State) (i n : Nat) : (s.bump i n).pending = s.pending := rfl

/-! `State.offerNotice` changes notices only. -/

@[simp] theorem State.offerNotice_held (s : State) (k : NoticeKind) (d v : Word) : (s.offerNotice k d v).held = s.held := rfl
@[simp] theorem State.offerNotice_link (s : State) (k : NoticeKind) (d v : Word) : (s.offerNotice k d v).link = s.link := rfl
@[simp] theorem State.offerNotice_unit (s : State) (k : NoticeKind) (d v : Word) : (s.offerNotice k d v).unit = s.unit := rfl
@[simp] theorem State.offerNotice_tables (s : State) (k : NoticeKind) (d v : Word) : (s.offerNotice k d v).tables = s.tables := rfl
@[simp] theorem State.offerNotice_formats (s : State) (k : NoticeKind) (d v : Word) : (s.offerNotice k d v).formats = s.formats := rfl
@[simp] theorem State.offerNotice_disp (s : State) (k : NoticeKind) (d v : Word) : (s.offerNotice k d v).disp = s.disp := rfl
@[simp] theorem State.offerNotice_mirror (s : State) (k : NoticeKind) (d v : Word) : (s.offerNotice k d v).mirror = s.mirror := rfl
@[simp] theorem State.offerNotice_steer (s : State) (k : NoticeKind) (d v : Word) : (s.offerNotice k d v).steer = s.steer := rfl
@[simp] theorem State.offerNotice_camera (s : State) (k : NoticeKind) (d v : Word) : (s.offerNotice k d v).camera = s.camera := rfl
@[simp] theorem State.offerNotice_guide (s : State) (k : NoticeKind) (d v : Word) : (s.offerNotice k d v).guide = s.guide := rfl
@[simp] theorem State.offerNotice_rear (s : State) (k : NoticeKind) (d v : Word) : (s.offerNotice k d v).rear = s.rear := rfl
@[simp] theorem State.offerNotice_menus (s : State) (k : NoticeKind) (d v : Word) : (s.offerNotice k d v).menus = s.menus := rfl
@[simp] theorem State.offerNotice_rings (s : State) (k : NoticeKind) (d v : Word) : (s.offerNotice k d v).rings = s.rings := rfl
@[simp] theorem State.offerNotice_outlets (s : State) (k : NoticeKind) (d v : Word) : (s.offerNotice k d v).outlets = s.outlets := rfl
@[simp] theorem State.offerNotice_chimes (s : State) (k : NoticeKind) (d v : Word) : (s.offerNotice k d v).chimes = s.chimes := rfl
@[simp] theorem State.offerNotice_pending (s : State) (k : NoticeKind) (d v : Word) : (s.offerNotice k d v).pending = s.pending := rfl

/-! `State.setDisp` changes disp only. -/

@[simp] theorem State.setDisp_held (s : State) (d : Side) (x : Display) : (s.setDisp d x).held = s.held := rfl
@[simp] theorem State.setDisp_link (s : State) (d : Side) (x : Display) : (s.setDisp d x).link = s.link := rfl
@[simp] theorem State.setDisp_unit (s : State) (d : Side) (x : Display) : (s.setDisp d x).unit = s.unit := rfl
@[simp] theorem State.setDisp_tables (s : State) (d : Side) (x : Display) : (s.setDisp d x).tables = s.tables := rfl
@[simp] theorem State.setDisp_notices (s : State) (d : Side) (x : Display) : (s.setDisp d x).notices = s.notices := rfl
@[simp] theorem State.setDisp_formats (s : State) (d : Side) (x : Display) : (s.setDisp d x).formats = s.formats := rfl
@[simp] theorem State.setDisp_mirror (s : State) (d : Side) (x : Display) : (s.setDisp d x).mirror = s.mirror := rfl
@[simp] theorem State.setDisp_steer (s : State) (d : Side) (x : Display) : (s.setDisp d x).steer = s.steer := rfl
@[simp] theorem State.setDisp_camera (s : State) (d : Side) (x : Display) : (s.setDisp d x).camera = s.camera := rfl
@[simp] theorem State.setDisp_guide (s : State) (d : Side) (x : Display) : (s.setDisp d x).guide = s.guide := rfl
@[simp] theorem State.setDisp_rear (s : State) (d : Side) (x : Display) : (s.setDisp d x).rear = s.rear := rfl
@[simp] theorem State.setDisp_menus (s : State) (d : Side) (x : Display) : (s.setDisp d x).menus = s.menus := rfl
@[simp] theorem State.setDisp_rings (s : State) (d : Side) (x : Display) : (s.setDisp d x).rings = s.rings := rfl
@[simp] theorem State.setDisp_outlets (s : State) (d : Side) (x : Display) : (s.setDisp d x).outlets = s.outlets := rfl
@[simp] theorem State.setDisp_chimes (s : State) (d : Side) (x : Display) : (s.setDisp d x).chimes = s.chimes := rfl
@[simp] theorem State.setDisp_pending (s : State) (d : Side) (x : Display) : (s.setDisp d x).pending = s.pending := rfl

/-! `State.setMenu` changes menus only. -/

@[simp] theorem State.setMenu_held (s : State) (d : Side) (m : Menu) : (s.setMenu d m).held = s.held := rfl
@[simp] theorem State.setMenu_link (s : State) (d : Side) (m : Menu) : (s.setMenu d m).link = s.link := rfl
@[simp] theorem State.setMenu_unit (s : State) (d : Side) (m : Menu) : (s.setMenu d m).unit = s.unit := rfl
@[simp] theorem State.setMenu_tables (s : State) (d : Side) (m : Menu) : (s.setMenu d m).tables = s.tables := rfl
@[simp] theorem State.setMenu_notices (s : State) (d : Side) (m : Menu) : (s.setMenu d m).notices = s.notices := rfl
@[simp] theorem State.setMenu_formats (s : State) (d : Side) (m : Menu) : (s.setMenu d m).formats = s.formats := rfl
@[simp] theorem State.setMenu_disp (s : State) (d : Side) (m : Menu) : (s.setMenu d m).disp = s.disp := rfl
@[simp] theorem State.setMenu_mirror (s : State) (d : Side) (m : Menu) : (s.setMenu d m).mirror = s.mirror := rfl
@[simp] theorem State.setMenu_steer (s : State) (d : Side) (m : Menu) : (s.setMenu d m).steer = s.steer := rfl
@[simp] theorem State.setMenu_camera (s : State) (d : Side) (m : Menu) : (s.setMenu d m).camera = s.camera := rfl
@[simp] theorem State.setMenu_guide (s : State) (d : Side) (m : Menu) : (s.setMenu d m).guide = s.guide := rfl
@[simp] theorem State.setMenu_rear (s : State) (d : Side) (m : Menu) : (s.setMenu d m).rear = s.rear := rfl
@[simp] theorem State.setMenu_rings (s : State) (d : Side) (m : Menu) : (s.setMenu d m).rings = s.rings := rfl
@[simp] theorem State.setMenu_outlets (s : State) (d : Side) (m : Menu) : (s.setMenu d m).outlets = s.outlets := rfl
@[simp] theorem State.setMenu_chimes (s : State) (d : Side) (m : Menu) : (s.setMenu d m).chimes = s.chimes := rfl
@[simp] theorem State.setMenu_pending (s : State) (d : Side) (m : Menu) : (s.setMenu d m).pending = s.pending := rfl

/-! `State.setGroup` changes tables only. -/

@[simp] theorem State.setGroup_held (s : State) (g : GroupId) (b : Group) : (s.setGroup g b).held = s.held := rfl
@[simp] theorem State.setGroup_link (s : State) (g : GroupId) (b : Group) : (s.setGroup g b).link = s.link := rfl
@[simp] theorem State.setGroup_unit (s : State) (g : GroupId) (b : Group) : (s.setGroup g b).unit = s.unit := rfl
@[simp] theorem State.setGroup_notices (s : State) (g : GroupId) (b : Group) : (s.setGroup g b).notices = s.notices := rfl
@[simp] theorem State.setGroup_formats (s : State) (g : GroupId) (b : Group) : (s.setGroup g b).formats = s.formats := rfl
@[simp] theorem State.setGroup_disp (s : State) (g : GroupId) (b : Group) : (s.setGroup g b).disp = s.disp := rfl
@[simp] theorem State.setGroup_mirror (s : State) (g : GroupId) (b : Group) : (s.setGroup g b).mirror = s.mirror := rfl
@[simp] theorem State.setGroup_steer (s : State) (g : GroupId) (b : Group) : (s.setGroup g b).steer = s.steer := rfl
@[simp] theorem State.setGroup_camera (s : State) (g : GroupId) (b : Group) : (s.setGroup g b).camera = s.camera := rfl
@[simp] theorem State.setGroup_guide (s : State) (g : GroupId) (b : Group) : (s.setGroup g b).guide = s.guide := rfl
@[simp] theorem State.setGroup_rear (s : State) (g : GroupId) (b : Group) : (s.setGroup g b).rear = s.rear := rfl
@[simp] theorem State.setGroup_menus (s : State) (g : GroupId) (b : Group) : (s.setGroup g b).menus = s.menus := rfl
@[simp] theorem State.setGroup_rings (s : State) (g : GroupId) (b : Group) : (s.setGroup g b).rings = s.rings := rfl
@[simp] theorem State.setGroup_outlets (s : State) (g : GroupId) (b : Group) : (s.setGroup g b).outlets = s.outlets := rfl
@[simp] theorem State.setGroup_chimes (s : State) (g : GroupId) (b : Group) : (s.setGroup g b).chimes = s.chimes := rfl
@[simp] theorem State.setGroup_pending (s : State) (g : GroupId) (b : Group) : (s.setGroup g b).pending = s.pending := rfl

/-! `State.requestChime` changes chimes only. -/

@[simp] theorem State.requestChime_held (s : State) (n : Nat) : (s.requestChime n).held = s.held := rfl
@[simp] theorem State.requestChime_link (s : State) (n : Nat) : (s.requestChime n).link = s.link := rfl
@[simp] theorem State.requestChime_unit (s : State) (n : Nat) : (s.requestChime n).unit = s.unit := rfl
@[simp] theorem State.requestChime_tables (s : State) (n : Nat) : (s.requestChime n).tables = s.tables := rfl
@[simp] theorem State.requestChime_notices (s : State) (n : Nat) : (s.requestChime n).notices = s.notices := rfl
@[simp] theorem State.requestChime_formats (s : State) (n : Nat) : (s.requestChime n).formats = s.formats := rfl
@[simp] theorem State.requestChime_disp (s : State) (n : Nat) : (s.requestChime n).disp = s.disp := rfl
@[simp] theorem State.requestChime_mirror (s : State) (n : Nat) : (s.requestChime n).mirror = s.mirror := rfl
@[simp] theorem State.requestChime_steer (s : State) (n : Nat) : (s.requestChime n).steer = s.steer := rfl
@[simp] theorem State.requestChime_camera (s : State) (n : Nat) : (s.requestChime n).camera = s.camera := rfl
@[simp] theorem State.requestChime_guide (s : State) (n : Nat) : (s.requestChime n).guide = s.guide := rfl
@[simp] theorem State.requestChime_rear (s : State) (n : Nat) : (s.requestChime n).rear = s.rear := rfl
@[simp] theorem State.requestChime_menus (s : State) (n : Nat) : (s.requestChime n).menus = s.menus := rfl
@[simp] theorem State.requestChime_rings (s : State) (n : Nat) : (s.requestChime n).rings = s.rings := rfl
@[simp] theorem State.requestChime_outlets (s : State) (n : Nat) : (s.requestChime n).outlets = s.outlets := rfl
@[simp] theorem State.requestChime_pending (s : State) (n : Nat) : (s.requestChime n).pending = s.pending := rfl

/-! `State.setAdmission` changes chimes only. -/

@[simp] theorem State.setAdmission_held (s : State) (l : Nat) : (s.setAdmission l).held = s.held := rfl
@[simp] theorem State.setAdmission_link (s : State) (l : Nat) : (s.setAdmission l).link = s.link := rfl
@[simp] theorem State.setAdmission_unit (s : State) (l : Nat) : (s.setAdmission l).unit = s.unit := rfl
@[simp] theorem State.setAdmission_tables (s : State) (l : Nat) : (s.setAdmission l).tables = s.tables := rfl
@[simp] theorem State.setAdmission_notices (s : State) (l : Nat) : (s.setAdmission l).notices = s.notices := rfl
@[simp] theorem State.setAdmission_formats (s : State) (l : Nat) : (s.setAdmission l).formats = s.formats := rfl
@[simp] theorem State.setAdmission_disp (s : State) (l : Nat) : (s.setAdmission l).disp = s.disp := rfl
@[simp] theorem State.setAdmission_mirror (s : State) (l : Nat) : (s.setAdmission l).mirror = s.mirror := rfl
@[simp] theorem State.setAdmission_steer (s : State) (l : Nat) : (s.setAdmission l).steer = s.steer := rfl
@[simp] theorem State.setAdmission_camera (s : State) (l : Nat) : (s.setAdmission l).camera = s.camera := rfl
@[simp] theorem State.setAdmission_guide (s : State) (l : Nat) : (s.setAdmission l).guide = s.guide := rfl
@[simp] theorem State.setAdmission_rear (s : State) (l : Nat) : (s.setAdmission l).rear = s.rear := rfl
@[simp] theorem State.setAdmission_menus (s : State) (l : Nat) : (s.setAdmission l).menus = s.menus := rfl
@[simp] theorem State.setAdmission_rings (s : State) (l : Nat) : (s.setAdmission l).rings = s.rings := rfl
@[simp] theorem State.setAdmission_outlets (s : State) (l : Nat) : (s.setAdmission l).outlets = s.outlets := rfl
@[simp] theorem State.setAdmission_pending (s : State) (l : Nat) : (s.setAdmission l).pending = s.pending := rfl

/-! `State.settleEnds` changes chimes only. -/

@[simp] theorem State.settleEnds_held (s : State) : (s.settleEnds).held = s.held := rfl
@[simp] theorem State.settleEnds_link (s : State) : (s.settleEnds).link = s.link := rfl
@[simp] theorem State.settleEnds_unit (s : State) : (s.settleEnds).unit = s.unit := rfl
@[simp] theorem State.settleEnds_tables (s : State) : (s.settleEnds).tables = s.tables := rfl
@[simp] theorem State.settleEnds_notices (s : State) : (s.settleEnds).notices = s.notices := rfl
@[simp] theorem State.settleEnds_formats (s : State) : (s.settleEnds).formats = s.formats := rfl
@[simp] theorem State.settleEnds_disp (s : State) : (s.settleEnds).disp = s.disp := rfl
@[simp] theorem State.settleEnds_mirror (s : State) : (s.settleEnds).mirror = s.mirror := rfl
@[simp] theorem State.settleEnds_steer (s : State) : (s.settleEnds).steer = s.steer := rfl
@[simp] theorem State.settleEnds_camera (s : State) : (s.settleEnds).camera = s.camera := rfl
@[simp] theorem State.settleEnds_guide (s : State) : (s.settleEnds).guide = s.guide := rfl
@[simp] theorem State.settleEnds_rear (s : State) : (s.settleEnds).rear = s.rear := rfl
@[simp] theorem State.settleEnds_menus (s : State) : (s.settleEnds).menus = s.menus := rfl
@[simp] theorem State.settleEnds_rings (s : State) : (s.settleEnds).rings = s.rings := rfl
@[simp] theorem State.settleEnds_outlets (s : State) : (s.settleEnds).outlets = s.outlets := rfl
@[simp] theorem State.settleEnds_pending (s : State) : (s.settleEnds).pending = s.pending := rfl

/-! `State.setPointer` changes unit only. -/

@[simp] theorem State.setPointer_held (s : State) (t : TableId) (i : Nat) : (s.setPointer t i).held = s.held := rfl
@[simp] theorem State.setPointer_link (s : State) (t : TableId) (i : Nat) : (s.setPointer t i).link = s.link := rfl
@[simp] theorem State.setPointer_tables (s : State) (t : TableId) (i : Nat) : (s.setPointer t i).tables = s.tables := rfl
@[simp] theorem State.setPointer_notices (s : State) (t : TableId) (i : Nat) : (s.setPointer t i).notices = s.notices := rfl
@[simp] theorem State.setPointer_formats (s : State) (t : TableId) (i : Nat) : (s.setPointer t i).formats = s.formats := rfl
@[simp] theorem State.setPointer_disp (s : State) (t : TableId) (i : Nat) : (s.setPointer t i).disp = s.disp := rfl
@[simp] theorem State.setPointer_mirror (s : State) (t : TableId) (i : Nat) : (s.setPointer t i).mirror = s.mirror := rfl
@[simp] theorem State.setPointer_steer (s : State) (t : TableId) (i : Nat) : (s.setPointer t i).steer = s.steer := rfl
@[simp] theorem State.setPointer_camera (s : State) (t : TableId) (i : Nat) : (s.setPointer t i).camera = s.camera := rfl
@[simp] theorem State.setPointer_guide (s : State) (t : TableId) (i : Nat) : (s.setPointer t i).guide = s.guide := rfl
@[simp] theorem State.setPointer_rear (s : State) (t : TableId) (i : Nat) : (s.setPointer t i).rear = s.rear := rfl
@[simp] theorem State.setPointer_menus (s : State) (t : TableId) (i : Nat) : (s.setPointer t i).menus = s.menus := rfl
@[simp] theorem State.setPointer_rings (s : State) (t : TableId) (i : Nat) : (s.setPointer t i).rings = s.rings := rfl
@[simp] theorem State.setPointer_outlets (s : State) (t : TableId) (i : Nat) : (s.setPointer t i).outlets = s.outlets := rfl
@[simp] theorem State.setPointer_chimes (s : State) (t : TableId) (i : Nat) : (s.setPointer t i).chimes = s.chimes := rfl
@[simp] theorem State.setPointer_pending (s : State) (t : TableId) (i : Nat) : (s.setPointer t i).pending = s.pending := rfl

/-! `State.dequeue` changes unit only. -/

@[simp] theorem State.dequeue_held (s : State) : (s.dequeue).held = s.held := rfl
@[simp] theorem State.dequeue_link (s : State) : (s.dequeue).link = s.link := rfl
@[simp] theorem State.dequeue_tables (s : State) : (s.dequeue).tables = s.tables := rfl
@[simp] theorem State.dequeue_notices (s : State) : (s.dequeue).notices = s.notices := rfl
@[simp] theorem State.dequeue_formats (s : State) : (s.dequeue).formats = s.formats := rfl
@[simp] theorem State.dequeue_disp (s : State) : (s.dequeue).disp = s.disp := rfl
@[simp] theorem State.dequeue_mirror (s : State) : (s.dequeue).mirror = s.mirror := rfl
@[simp] theorem State.dequeue_steer (s : State) : (s.dequeue).steer = s.steer := rfl
@[simp] theorem State.dequeue_camera (s : State) : (s.dequeue).camera = s.camera := rfl
@[simp] theorem State.dequeue_guide (s : State) : (s.dequeue).guide = s.guide := rfl
@[simp] theorem State.dequeue_rear (s : State) : (s.dequeue).rear = s.rear := rfl
@[simp] theorem State.dequeue_menus (s : State) : (s.dequeue).menus = s.menus := rfl
@[simp] theorem State.dequeue_rings (s : State) : (s.dequeue).rings = s.rings := rfl
@[simp] theorem State.dequeue_outlets (s : State) : (s.dequeue).outlets = s.outlets := rfl
@[simp] theorem State.dequeue_chimes (s : State) : (s.dequeue).chimes = s.chimes := rfl
@[simp] theorem State.dequeue_pending (s : State) : (s.dequeue).pending = s.pending := rfl

/-! `State.withQueue` changes unit only. -/

@[simp] theorem State.withQueue_held (s : State) (q : List QueuedRequest) : (s.withQueue q).held = s.held := rfl
@[simp] theorem State.withQueue_link (s : State) (q : List QueuedRequest) : (s.withQueue q).link = s.link := rfl
@[simp] theorem State.withQueue_tables (s : State) (q : List QueuedRequest) : (s.withQueue q).tables = s.tables := rfl
@[simp] theorem State.withQueue_notices (s : State) (q : List QueuedRequest) : (s.withQueue q).notices = s.notices := rfl
@[simp] theorem State.withQueue_formats (s : State) (q : List QueuedRequest) : (s.withQueue q).formats = s.formats := rfl
@[simp] theorem State.withQueue_disp (s : State) (q : List QueuedRequest) : (s.withQueue q).disp = s.disp := rfl
@[simp] theorem State.withQueue_mirror (s : State) (q : List QueuedRequest) : (s.withQueue q).mirror = s.mirror := rfl
@[simp] theorem State.withQueue_steer (s : State) (q : List QueuedRequest) : (s.withQueue q).steer = s.steer := rfl
@[simp] theorem State.withQueue_camera (s : State) (q : List QueuedRequest) : (s.withQueue q).camera = s.camera := rfl
@[simp] theorem State.withQueue_guide (s : State) (q : List QueuedRequest) : (s.withQueue q).guide = s.guide := rfl
@[simp] theorem State.withQueue_rear (s : State) (q : List QueuedRequest) : (s.withQueue q).rear = s.rear := rfl
@[simp] theorem State.withQueue_menus (s : State) (q : List QueuedRequest) : (s.withQueue q).menus = s.menus := rfl
@[simp] theorem State.withQueue_rings (s : State) (q : List QueuedRequest) : (s.withQueue q).rings = s.rings := rfl
@[simp] theorem State.withQueue_outlets (s : State) (q : List QueuedRequest) : (s.withQueue q).outlets = s.outlets := rfl
@[simp] theorem State.withQueue_chimes (s : State) (q : List QueuedRequest) : (s.withQueue q).chimes = s.chimes := rfl
@[simp] theorem State.withQueue_pending (s : State) (q : List QueuedRequest) : (s.withQueue q).pending = s.pending := rfl

/-! `State.setRing` changes rings only. -/

@[simp] theorem State.setRing_held (s : State) (p : Prog) (r : Ring) : (s.setRing p r).held = s.held := rfl
@[simp] theorem State.setRing_link (s : State) (p : Prog) (r : Ring) : (s.setRing p r).link = s.link := rfl
@[simp] theorem State.setRing_unit (s : State) (p : Prog) (r : Ring) : (s.setRing p r).unit = s.unit := rfl
@[simp] theorem State.setRing_tables (s : State) (p : Prog) (r : Ring) : (s.setRing p r).tables = s.tables := rfl
@[simp] theorem State.setRing_notices (s : State) (p : Prog) (r : Ring) : (s.setRing p r).notices = s.notices := rfl
@[simp] theorem State.setRing_formats (s : State) (p : Prog) (r : Ring) : (s.setRing p r).formats = s.formats := rfl
@[simp] theorem State.setRing_disp (s : State) (p : Prog) (r : Ring) : (s.setRing p r).disp = s.disp := rfl
@[simp] theorem State.setRing_mirror (s : State) (p : Prog) (r : Ring) : (s.setRing p r).mirror = s.mirror := rfl
@[simp] theorem State.setRing_steer (s : State) (p : Prog) (r : Ring) : (s.setRing p r).steer = s.steer := rfl
@[simp] theorem State.setRing_camera (s : State) (p : Prog) (r : Ring) : (s.setRing p r).camera = s.camera := rfl
@[simp] theorem State.setRing_guide (s : State) (p : Prog) (r : Ring) : (s.setRing p r).guide = s.guide := rfl
@[simp] theorem State.setRing_rear (s : State) (p : Prog) (r : Ring) : (s.setRing p r).rear = s.rear := rfl
@[simp] theorem State.setRing_menus (s : State) (p : Prog) (r : Ring) : (s.setRing p r).menus = s.menus := rfl
@[simp] theorem State.setRing_outlets (s : State) (p : Prog) (r : Ring) : (s.setRing p r).outlets = s.outlets := rfl
@[simp] theorem State.setRing_chimes (s : State) (p : Prog) (r : Ring) : (s.setRing p r).chimes = s.chimes := rfl
@[simp] theorem State.setRing_pending (s : State) (p : Prog) (r : Ring) : (s.setRing p r).pending = s.pending := rfl

/-! `State.reactHold` changes guide only. -/

@[simp] theorem State.reactHold_held (s : State) : (s.reactHold).held = s.held := rfl
@[simp] theorem State.reactHold_link (s : State) : (s.reactHold).link = s.link := rfl
@[simp] theorem State.reactHold_unit (s : State) : (s.reactHold).unit = s.unit := rfl
@[simp] theorem State.reactHold_tables (s : State) : (s.reactHold).tables = s.tables := rfl
@[simp] theorem State.reactHold_notices (s : State) : (s.reactHold).notices = s.notices := rfl
@[simp] theorem State.reactHold_formats (s : State) : (s.reactHold).formats = s.formats := rfl
@[simp] theorem State.reactHold_disp (s : State) : (s.reactHold).disp = s.disp := rfl
@[simp] theorem State.reactHold_mirror (s : State) : (s.reactHold).mirror = s.mirror := rfl
@[simp] theorem State.reactHold_steer (s : State) : (s.reactHold).steer = s.steer := rfl
@[simp] theorem State.reactHold_camera (s : State) : (s.reactHold).camera = s.camera := rfl
@[simp] theorem State.reactHold_rear (s : State) : (s.reactHold).rear = s.rear := rfl
@[simp] theorem State.reactHold_menus (s : State) : (s.reactHold).menus = s.menus := rfl
@[simp] theorem State.reactHold_rings (s : State) : (s.reactHold).rings = s.rings := rfl
@[simp] theorem State.reactHold_outlets (s : State) : (s.reactHold).outlets = s.outlets := rfl
@[simp] theorem State.reactHold_chimes (s : State) : (s.reactHold).chimes = s.chimes := rfl
@[simp] theorem State.reactHold_pending (s : State) : (s.reactHold).pending = s.pending := rfl

/-! `State.setHoldRequest` changes guide only. -/

@[simp] theorem State.setHoldRequest_held (s : State) (b : Bool) : (s.setHoldRequest b).held = s.held := rfl
@[simp] theorem State.setHoldRequest_link (s : State) (b : Bool) : (s.setHoldRequest b).link = s.link := rfl
@[simp] theorem State.setHoldRequest_unit (s : State) (b : Bool) : (s.setHoldRequest b).unit = s.unit := rfl
@[simp] theorem State.setHoldRequest_tables (s : State) (b : Bool) : (s.setHoldRequest b).tables = s.tables := rfl
@[simp] theorem State.setHoldRequest_notices (s : State) (b : Bool) : (s.setHoldRequest b).notices = s.notices := rfl
@[simp] theorem State.setHoldRequest_formats (s : State) (b : Bool) : (s.setHoldRequest b).formats = s.formats := rfl
@[simp] theorem State.setHoldRequest_disp (s : State) (b : Bool) : (s.setHoldRequest b).disp = s.disp := rfl
@[simp] theorem State.setHoldRequest_mirror (s : State) (b : Bool) : (s.setHoldRequest b).mirror = s.mirror := rfl
@[simp] theorem State.setHoldRequest_steer (s : State) (b : Bool) : (s.setHoldRequest b).steer = s.steer := rfl
@[simp] theorem State.setHoldRequest_camera (s : State) (b : Bool) : (s.setHoldRequest b).camera = s.camera := rfl
@[simp] theorem State.setHoldRequest_rear (s : State) (b : Bool) : (s.setHoldRequest b).rear = s.rear := rfl
@[simp] theorem State.setHoldRequest_menus (s : State) (b : Bool) : (s.setHoldRequest b).menus = s.menus := rfl
@[simp] theorem State.setHoldRequest_rings (s : State) (b : Bool) : (s.setHoldRequest b).rings = s.rings := rfl
@[simp] theorem State.setHoldRequest_outlets (s : State) (b : Bool) : (s.setHoldRequest b).outlets = s.outlets := rfl
@[simp] theorem State.setHoldRequest_chimes (s : State) (b : Bool) : (s.setHoldRequest b).chimes = s.chimes := rfl
@[simp] theorem State.setHoldRequest_pending (s : State) (b : Bool) : (s.setHoldRequest b).pending = s.pending := rfl

/-! `State.startWatch` changes camera only. -/

@[simp] theorem State.startWatch_held (s : State) : (s.startWatch).held = s.held := rfl
@[simp] theorem State.startWatch_link (s : State) : (s.startWatch).link = s.link := rfl
@[simp] theorem State.startWatch_unit (s : State) : (s.startWatch).unit = s.unit := rfl
@[simp] theorem State.startWatch_tables (s : State) : (s.startWatch).tables = s.tables := rfl
@[simp] theorem State.startWatch_notices (s : State) : (s.startWatch).notices = s.notices := rfl
@[simp] theorem State.startWatch_formats (s : State) : (s.startWatch).formats = s.formats := rfl
@[simp] theorem State.startWatch_disp (s : State) : (s.startWatch).disp = s.disp := rfl
@[simp] theorem State.startWatch_mirror (s : State) : (s.startWatch).mirror = s.mirror := rfl
@[simp] theorem State.startWatch_steer (s : State) : (s.startWatch).steer = s.steer := rfl
@[simp] theorem State.startWatch_guide (s : State) : (s.startWatch).guide = s.guide := rfl
@[simp] theorem State.startWatch_rear (s : State) : (s.startWatch).rear = s.rear := rfl
@[simp] theorem State.startWatch_menus (s : State) : (s.startWatch).menus = s.menus := rfl
@[simp] theorem State.startWatch_rings (s : State) : (s.startWatch).rings = s.rings := rfl
@[simp] theorem State.startWatch_outlets (s : State) : (s.startWatch).outlets = s.outlets := rfl
@[simp] theorem State.startWatch_chimes (s : State) : (s.startWatch).chimes = s.chimes := rfl
@[simp] theorem State.startWatch_pending (s : State) : (s.startWatch).pending = s.pending := rfl

/-! `State.markLineSeen` changes camera only. -/

@[simp] theorem State.markLineSeen_held (s : State) (b : Bool) : (s.markLineSeen b).held = s.held := rfl
@[simp] theorem State.markLineSeen_link (s : State) (b : Bool) : (s.markLineSeen b).link = s.link := rfl
@[simp] theorem State.markLineSeen_unit (s : State) (b : Bool) : (s.markLineSeen b).unit = s.unit := rfl
@[simp] theorem State.markLineSeen_tables (s : State) (b : Bool) : (s.markLineSeen b).tables = s.tables := rfl
@[simp] theorem State.markLineSeen_notices (s : State) (b : Bool) : (s.markLineSeen b).notices = s.notices := rfl
@[simp] theorem State.markLineSeen_formats (s : State) (b : Bool) : (s.markLineSeen b).formats = s.formats := rfl
@[simp] theorem State.markLineSeen_disp (s : State) (b : Bool) : (s.markLineSeen b).disp = s.disp := rfl
@[simp] theorem State.markLineSeen_mirror (s : State) (b : Bool) : (s.markLineSeen b).mirror = s.mirror := rfl
@[simp] theorem State.markLineSeen_steer (s : State) (b : Bool) : (s.markLineSeen b).steer = s.steer := rfl
@[simp] theorem State.markLineSeen_guide (s : State) (b : Bool) : (s.markLineSeen b).guide = s.guide := rfl
@[simp] theorem State.markLineSeen_rear (s : State) (b : Bool) : (s.markLineSeen b).rear = s.rear := rfl
@[simp] theorem State.markLineSeen_menus (s : State) (b : Bool) : (s.markLineSeen b).menus = s.menus := rfl
@[simp] theorem State.markLineSeen_rings (s : State) (b : Bool) : (s.markLineSeen b).rings = s.rings := rfl
@[simp] theorem State.markLineSeen_outlets (s : State) (b : Bool) : (s.markLineSeen b).outlets = s.outlets := rfl
@[simp] theorem State.markLineSeen_chimes (s : State) (b : Bool) : (s.markLineSeen b).chimes = s.chimes := rfl
@[simp] theorem State.markLineSeen_pending (s : State) (b : Bool) : (s.markLineSeen b).pending = s.pending := rfl

/-! `State.setCameraState` changes camera, notices only. -/

@[simp] theorem State.setCameraState_held (s : State) (c : CameraState) : (s.setCameraState c).held = s.held := rfl
@[simp] theorem State.setCameraState_link (s : State) (c : CameraState) : (s.setCameraState c).link = s.link := rfl
@[simp] theorem State.setCameraState_unit (s : State) (c : CameraState) : (s.setCameraState c).unit = s.unit := rfl
@[simp] theorem State.setCameraState_tables (s : State) (c : CameraState) : (s.setCameraState c).tables = s.tables := rfl
@[simp] theorem State.setCameraState_formats (s : State) (c : CameraState) : (s.setCameraState c).formats = s.formats := rfl
@[simp] theorem State.setCameraState_disp (s : State) (c : CameraState) : (s.setCameraState c).disp = s.disp := rfl
@[simp] theorem State.setCameraState_mirror (s : State) (c : CameraState) : (s.setCameraState c).mirror = s.mirror := rfl
@[simp] theorem State.setCameraState_steer (s : State) (c : CameraState) : (s.setCameraState c).steer = s.steer := rfl
@[simp] theorem State.setCameraState_guide (s : State) (c : CameraState) : (s.setCameraState c).guide = s.guide := rfl
@[simp] theorem State.setCameraState_rear (s : State) (c : CameraState) : (s.setCameraState c).rear = s.rear := rfl
@[simp] theorem State.setCameraState_menus (s : State) (c : CameraState) : (s.setCameraState c).menus = s.menus := rfl
@[simp] theorem State.setCameraState_rings (s : State) (c : CameraState) : (s.setCameraState c).rings = s.rings := rfl
@[simp] theorem State.setCameraState_outlets (s : State) (c : CameraState) : (s.setCameraState c).outlets = s.outlets := rfl
@[simp] theorem State.setCameraState_chimes (s : State) (c : CameraState) : (s.setCameraState c).chimes = s.chimes := rfl
@[simp] theorem State.setCameraState_pending (s : State) (c : CameraState) : (s.setCameraState c).pending = s.pending := rfl

/-! `State.setStack` changes menus only. -/

@[simp] theorem State.setStack_held (s : State) (d : Side) (l : List PageEntry) : (s.setStack d l).held = s.held := rfl
@[simp] theorem State.setStack_link (s : State) (d : Side) (l : List PageEntry) : (s.setStack d l).link = s.link := rfl
@[simp] theorem State.setStack_unit (s : State) (d : Side) (l : List PageEntry) : (s.setStack d l).unit = s.unit := rfl
@[simp] theorem State.setStack_tables (s : State) (d : Side) (l : List PageEntry) : (s.setStack d l).tables = s.tables := rfl
@[simp] theorem State.setStack_notices (s : State) (d : Side) (l : List PageEntry) : (s.setStack d l).notices = s.notices := rfl
@[simp] theorem State.setStack_formats (s : State) (d : Side) (l : List PageEntry) : (s.setStack d l).formats = s.formats := rfl
@[simp] theorem State.setStack_disp (s : State) (d : Side) (l : List PageEntry) : (s.setStack d l).disp = s.disp := rfl
@[simp] theorem State.setStack_mirror (s : State) (d : Side) (l : List PageEntry) : (s.setStack d l).mirror = s.mirror := rfl
@[simp] theorem State.setStack_steer (s : State) (d : Side) (l : List PageEntry) : (s.setStack d l).steer = s.steer := rfl
@[simp] theorem State.setStack_camera (s : State) (d : Side) (l : List PageEntry) : (s.setStack d l).camera = s.camera := rfl
@[simp] theorem State.setStack_guide (s : State) (d : Side) (l : List PageEntry) : (s.setStack d l).guide = s.guide := rfl
@[simp] theorem State.setStack_rear (s : State) (d : Side) (l : List PageEntry) : (s.setStack d l).rear = s.rear := rfl
@[simp] theorem State.setStack_rings (s : State) (d : Side) (l : List PageEntry) : (s.setStack d l).rings = s.rings := rfl
@[simp] theorem State.setStack_outlets (s : State) (d : Side) (l : List PageEntry) : (s.setStack d l).outlets = s.outlets := rfl
@[simp] theorem State.setStack_chimes (s : State) (d : Side) (l : List PageEntry) : (s.setStack d l).chimes = s.chimes := rfl
@[simp] theorem State.setStack_pending (s : State) (d : Side) (l : List PageEntry) : (s.setStack d l).pending = s.pending := rfl

/-! `State.pushPage` changes menus only. -/

@[simp] theorem State.pushPage_held (s : State) (d : Side) (p : Nat) : (s.pushPage d p).held = s.held := rfl
@[simp] theorem State.pushPage_link (s : State) (d : Side) (p : Nat) : (s.pushPage d p).link = s.link := rfl
@[simp] theorem State.pushPage_unit (s : State) (d : Side) (p : Nat) : (s.pushPage d p).unit = s.unit := rfl
@[simp] theorem State.pushPage_tables (s : State) (d : Side) (p : Nat) : (s.pushPage d p).tables = s.tables := rfl
@[simp] theorem State.pushPage_notices (s : State) (d : Side) (p : Nat) : (s.pushPage d p).notices = s.notices := rfl
@[simp] theorem State.pushPage_formats (s : State) (d : Side) (p : Nat) : (s.pushPage d p).formats = s.formats := rfl
@[simp] theorem State.pushPage_disp (s : State) (d : Side) (p : Nat) : (s.pushPage d p).disp = s.disp := rfl
@[simp] theorem State.pushPage_mirror (s : State) (d : Side) (p : Nat) : (s.pushPage d p).mirror = s.mirror := rfl
@[simp] theorem State.pushPage_steer (s : State) (d : Side) (p : Nat) : (s.pushPage d p).steer = s.steer := rfl
@[simp] theorem State.pushPage_camera (s : State) (d : Side) (p : Nat) : (s.pushPage d p).camera = s.camera := rfl
@[simp] theorem State.pushPage_guide (s : State) (d : Side) (p : Nat) : (s.pushPage d p).guide = s.guide := rfl
@[simp] theorem State.pushPage_rear (s : State) (d : Side) (p : Nat) : (s.pushPage d p).rear = s.rear := rfl
@[simp] theorem State.pushPage_rings (s : State) (d : Side) (p : Nat) : (s.pushPage d p).rings = s.rings := rfl
@[simp] theorem State.pushPage_outlets (s : State) (d : Side) (p : Nat) : (s.pushPage d p).outlets = s.outlets := rfl
@[simp] theorem State.pushPage_chimes (s : State) (d : Side) (p : Nat) : (s.pushPage d p).chimes = s.chimes := rfl
@[simp] theorem State.pushPage_pending (s : State) (d : Side) (p : Nat) : (s.pushPage d p).pending = s.pending := rfl

/-! `State.popPage` changes menus only. -/

@[simp] theorem State.popPage_held (s : State) (d : Side) : (s.popPage d).held = s.held := rfl
@[simp] theorem State.popPage_link (s : State) (d : Side) : (s.popPage d).link = s.link := rfl
@[simp] theorem State.popPage_unit (s : State) (d : Side) : (s.popPage d).unit = s.unit := rfl
@[simp] theorem State.popPage_tables (s : State) (d : Side) : (s.popPage d).tables = s.tables := rfl
@[simp] theorem State.popPage_notices (s : State) (d : Side) : (s.popPage d).notices = s.notices := rfl
@[simp] theorem State.popPage_formats (s : State) (d : Side) : (s.popPage d).formats = s.formats := rfl
@[simp] theorem State.popPage_disp (s : State) (d : Side) : (s.popPage d).disp = s.disp := rfl
@[simp] theorem State.popPage_mirror (s : State) (d : Side) : (s.popPage d).mirror = s.mirror := rfl
@[simp] theorem State.popPage_steer (s : State) (d : Side) : (s.popPage d).steer = s.steer := rfl
@[simp] theorem State.popPage_camera (s : State) (d : Side) : (s.popPage d).camera = s.camera := rfl
@[simp] theorem State.popPage_guide (s : State) (d : Side) : (s.popPage d).guide = s.guide := rfl
@[simp] theorem State.popPage_rear (s : State) (d : Side) : (s.popPage d).rear = s.rear := rfl
@[simp] theorem State.popPage_rings (s : State) (d : Side) : (s.popPage d).rings = s.rings := rfl
@[simp] theorem State.popPage_outlets (s : State) (d : Side) : (s.popPage d).outlets = s.outlets := rfl
@[simp] theorem State.popPage_chimes (s : State) (d : Side) : (s.popPage d).chimes = s.chimes := rfl
@[simp] theorem State.popPage_pending (s : State) (d : Side) : (s.popPage d).pending = s.pending := rfl

/-! `State.setTimeout` changes menus only. -/

@[simp] theorem State.setTimeout_held (s : State) (d : Side) : (s.setTimeout d).held = s.held := rfl
@[simp] theorem State.setTimeout_link (s : State) (d : Side) : (s.setTimeout d).link = s.link := rfl
@[simp] theorem State.setTimeout_unit (s : State) (d : Side) : (s.setTimeout d).unit = s.unit := rfl
@[simp] theorem State.setTimeout_tables (s : State) (d : Side) : (s.setTimeout d).tables = s.tables := rfl
@[simp] theorem State.setTimeout_notices (s : State) (d : Side) : (s.setTimeout d).notices = s.notices := rfl
@[simp] theorem State.setTimeout_formats (s : State) (d : Side) : (s.setTimeout d).formats = s.formats := rfl
@[simp] theorem State.setTimeout_disp (s : State) (d : Side) : (s.setTimeout d).disp = s.disp := rfl
@[simp] theorem State.setTimeout_mirror (s : State) (d : Side) : (s.setTimeout d).mirror = s.mirror := rfl
@[simp] theorem State.setTimeout_steer (s : State) (d : Side) : (s.setTimeout d).steer = s.steer := rfl
@[simp] theorem State.setTimeout_camera (s : State) (d : Side) : (s.setTimeout d).camera = s.camera := rfl
@[simp] theorem State.setTimeout_guide (s : State) (d : Side) : (s.setTimeout d).guide = s.guide := rfl
@[simp] theorem State.setTimeout_rear (s : State) (d : Side) : (s.setTimeout d).rear = s.rear := rfl
@[simp] theorem State.setTimeout_rings (s : State) (d : Side) : (s.setTimeout d).rings = s.rings := rfl
@[simp] theorem State.setTimeout_outlets (s : State) (d : Side) : (s.setTimeout d).outlets = s.outlets := rfl
@[simp] theorem State.setTimeout_chimes (s : State) (d : Side) : (s.setTimeout d).chimes = s.chimes := rfl
@[simp] theorem State.setTimeout_pending (s : State) (d : Side) : (s.setTimeout d).pending = s.pending := rfl

/-! `State.setKey` changes menus only. -/

@[simp] theorem State.setKey_held (s : State) (d : Side) (k : Key) (x : Debouncer) : (s.setKey d k x).held = s.held := rfl
@[simp] theorem State.setKey_link (s : State) (d : Side) (k : Key) (x : Debouncer) : (s.setKey d k x).link = s.link := rfl
@[simp] theorem State.setKey_unit (s : State) (d : Side) (k : Key) (x : Debouncer) : (s.setKey d k x).unit = s.unit := rfl
@[simp] theorem State.setKey_tables (s : State) (d : Side) (k : Key) (x : Debouncer) : (s.setKey d k x).tables = s.tables := rfl
@[simp] theorem State.setKey_notices (s : State) (d : Side) (k : Key) (x : Debouncer) : (s.setKey d k x).notices = s.notices := rfl
@[simp] theorem State.setKey_formats (s : State) (d : Side) (k : Key) (x : Debouncer) : (s.setKey d k x).formats = s.formats := rfl
@[simp] theorem State.setKey_disp (s : State) (d : Side) (k : Key) (x : Debouncer) : (s.setKey d k x).disp = s.disp := rfl
@[simp] theorem State.setKey_mirror (s : State) (d : Side) (k : Key) (x : Debouncer) : (s.setKey d k x).mirror = s.mirror := rfl
@[simp] theorem State.setKey_steer (s : State) (d : Side) (k : Key) (x : Debouncer) : (s.setKey d k x).steer = s.steer := rfl
@[simp] theorem State.setKey_camera (s : State) (d : Side) (k : Key) (x : Debouncer) : (s.setKey d k x).camera = s.camera := rfl
@[simp] theorem State.setKey_guide (s : State) (d : Side) (k : Key) (x : Debouncer) : (s.setKey d k x).guide = s.guide := rfl
@[simp] theorem State.setKey_rear (s : State) (d : Side) (k : Key) (x : Debouncer) : (s.setKey d k x).rear = s.rear := rfl
@[simp] theorem State.setKey_rings (s : State) (d : Side) (k : Key) (x : Debouncer) : (s.setKey d k x).rings = s.rings := rfl
@[simp] theorem State.setKey_outlets (s : State) (d : Side) (k : Key) (x : Debouncer) : (s.setKey d k x).outlets = s.outlets := rfl
@[simp] theorem State.setKey_chimes (s : State) (d : Side) (k : Key) (x : Debouncer) : (s.setKey d k x).chimes = s.chimes := rfl
@[simp] theorem State.setKey_pending (s : State) (d : Side) (k : Key) (x : Debouncer) : (s.setKey d k x).pending = s.pending := rfl

/-! `State.setRepeat` changes menus only. -/

@[simp] theorem State.setRepeat_held (s : State) (d : Side) (k : Key) (t : Option Nat) : (s.setRepeat d k t).held = s.held := rfl
@[simp] theorem State.setRepeat_link (s : State) (d : Side) (k : Key) (t : Option Nat) : (s.setRepeat d k t).link = s.link := rfl
@[simp] theorem State.setRepeat_unit (s : State) (d : Side) (k : Key) (t : Option Nat) : (s.setRepeat d k t).unit = s.unit := rfl
@[simp] theorem State.setRepeat_tables (s : State) (d : Side) (k : Key) (t : Option Nat) : (s.setRepeat d k t).tables = s.tables := rfl
@[simp] theorem State.setRepeat_notices (s : State) (d : Side) (k : Key) (t : Option Nat) : (s.setRepeat d k t).notices = s.notices := rfl
@[simp] theorem State.setRepeat_formats (s : State) (d : Side) (k : Key) (t : Option Nat) : (s.setRepeat d k t).formats = s.formats := rfl
@[simp] theorem State.setRepeat_disp (s : State) (d : Side) (k : Key) (t : Option Nat) : (s.setRepeat d k t).disp = s.disp := rfl
@[simp] theorem State.setRepeat_mirror (s : State) (d : Side) (k : Key) (t : Option Nat) : (s.setRepeat d k t).mirror = s.mirror := rfl
@[simp] theorem State.setRepeat_steer (s : State) (d : Side) (k : Key) (t : Option Nat) : (s.setRepeat d k t).steer = s.steer := rfl
@[simp] theorem State.setRepeat_camera (s : State) (d : Side) (k : Key) (t : Option Nat) : (s.setRepeat d k t).camera = s.camera := rfl
@[simp] theorem State.setRepeat_guide (s : State) (d : Side) (k : Key) (t : Option Nat) : (s.setRepeat d k t).guide = s.guide := rfl
@[simp] theorem State.setRepeat_rear (s : State) (d : Side) (k : Key) (t : Option Nat) : (s.setRepeat d k t).rear = s.rear := rfl
@[simp] theorem State.setRepeat_rings (s : State) (d : Side) (k : Key) (t : Option Nat) : (s.setRepeat d k t).rings = s.rings := rfl
@[simp] theorem State.setRepeat_outlets (s : State) (d : Side) (k : Key) (t : Option Nat) : (s.setRepeat d k t).outlets = s.outlets := rfl
@[simp] theorem State.setRepeat_chimes (s : State) (d : Side) (k : Key) (t : Option Nat) : (s.setRepeat d k t).chimes = s.chimes := rfl
@[simp] theorem State.setRepeat_pending (s : State) (d : Side) (k : Key) (t : Option Nat) : (s.setRepeat d k t).pending = s.pending := rfl

/-! `State.startBanner` changes menus only. -/

@[simp] theorem State.startBanner_held (s : State) (d : Side) : (s.startBanner d).held = s.held := rfl
@[simp] theorem State.startBanner_link (s : State) (d : Side) : (s.startBanner d).link = s.link := rfl
@[simp] theorem State.startBanner_unit (s : State) (d : Side) : (s.startBanner d).unit = s.unit := rfl
@[simp] theorem State.startBanner_tables (s : State) (d : Side) : (s.startBanner d).tables = s.tables := rfl
@[simp] theorem State.startBanner_notices (s : State) (d : Side) : (s.startBanner d).notices = s.notices := rfl
@[simp] theorem State.startBanner_formats (s : State) (d : Side) : (s.startBanner d).formats = s.formats := rfl
@[simp] theorem State.startBanner_disp (s : State) (d : Side) : (s.startBanner d).disp = s.disp := rfl
@[simp] theorem State.startBanner_mirror (s : State) (d : Side) : (s.startBanner d).mirror = s.mirror := rfl
@[simp] theorem State.startBanner_steer (s : State) (d : Side) : (s.startBanner d).steer = s.steer := rfl
@[simp] theorem State.startBanner_camera (s : State) (d : Side) : (s.startBanner d).camera = s.camera := rfl
@[simp] theorem State.startBanner_guide (s : State) (d : Side) : (s.startBanner d).guide = s.guide := rfl
@[simp] theorem State.startBanner_rear (s : State) (d : Side) : (s.startBanner d).rear = s.rear := rfl
@[simp] theorem State.startBanner_rings (s : State) (d : Side) : (s.startBanner d).rings = s.rings := rfl
@[simp] theorem State.startBanner_outlets (s : State) (d : Side) : (s.startBanner d).outlets = s.outlets := rfl
@[simp] theorem State.startBanner_chimes (s : State) (d : Side) : (s.startBanner d).chimes = s.chimes := rfl
@[simp] theorem State.startBanner_pending (s : State) (d : Side) : (s.startBanner d).pending = s.pending := rfl

/-! `State.deny` changes chimes only. -/

@[simp] theorem State.deny_held (s : State) : (s.deny).held = s.held := rfl
@[simp] theorem State.deny_link (s : State) : (s.deny).link = s.link := rfl
@[simp] theorem State.deny_unit (s : State) : (s.deny).unit = s.unit := rfl
@[simp] theorem State.deny_tables (s : State) : (s.deny).tables = s.tables := rfl
@[simp] theorem State.deny_notices (s : State) : (s.deny).notices = s.notices := rfl
@[simp] theorem State.deny_formats (s : State) : (s.deny).formats = s.formats := rfl
@[simp] theorem State.deny_disp (s : State) : (s.deny).disp = s.disp := rfl
@[simp] theorem State.deny_mirror (s : State) : (s.deny).mirror = s.mirror := rfl
@[simp] theorem State.deny_steer (s : State) : (s.deny).steer = s.steer := rfl
@[simp] theorem State.deny_camera (s : State) : (s.deny).camera = s.camera := rfl
@[simp] theorem State.deny_guide (s : State) : (s.deny).guide = s.guide := rfl
@[simp] theorem State.deny_rear (s : State) : (s.deny).rear = s.rear := rfl
@[simp] theorem State.deny_menus (s : State) : (s.deny).menus = s.menus := rfl
@[simp] theorem State.deny_rings (s : State) : (s.deny).rings = s.rings := rfl
@[simp] theorem State.deny_outlets (s : State) : (s.deny).outlets = s.outlets := rfl
@[simp] theorem State.deny_pending (s : State) : (s.deny).pending = s.pending := rfl

/-! `State.stepTo` changes tables, chimes only. -/

@[simp] theorem State.stepTo_held (s : State) (d : Side) (n : Nat) : (s.stepTo d n).held = s.held := rfl
@[simp] theorem State.stepTo_link (s : State) (d : Side) (n : Nat) : (s.stepTo d n).link = s.link := rfl
@[simp] theorem State.stepTo_unit (s : State) (d : Side) (n : Nat) : (s.stepTo d n).unit = s.unit := rfl
@[simp] theorem State.stepTo_notices (s : State) (d : Side) (n : Nat) : (s.stepTo d n).notices = s.notices := rfl
@[simp] theorem State.stepTo_formats (s : State) (d : Side) (n : Nat) : (s.stepTo d n).formats = s.formats := rfl
@[simp] theorem State.stepTo_disp (s : State) (d : Side) (n : Nat) : (s.stepTo d n).disp = s.disp := rfl
@[simp] theorem State.stepTo_mirror (s : State) (d : Side) (n : Nat) : (s.stepTo d n).mirror = s.mirror := rfl
@[simp] theorem State.stepTo_steer (s : State) (d : Side) (n : Nat) : (s.stepTo d n).steer = s.steer := rfl
@[simp] theorem State.stepTo_camera (s : State) (d : Side) (n : Nat) : (s.stepTo d n).camera = s.camera := rfl
@[simp] theorem State.stepTo_guide (s : State) (d : Side) (n : Nat) : (s.stepTo d n).guide = s.guide := rfl
@[simp] theorem State.stepTo_rear (s : State) (d : Side) (n : Nat) : (s.stepTo d n).rear = s.rear := rfl
@[simp] theorem State.stepTo_menus (s : State) (d : Side) (n : Nat) : (s.stepTo d n).menus = s.menus := rfl
@[simp] theorem State.stepTo_rings (s : State) (d : Side) (n : Nat) : (s.stepTo d n).rings = s.rings := rfl
@[simp] theorem State.stepTo_outlets (s : State) (d : Side) (n : Nat) : (s.stepTo d n).outlets = s.outlets := rfl
@[simp] theorem State.stepTo_pending (s : State) (d : Side) (n : Nat) : (s.stepTo d n).pending = s.pending := rfl

/-! `State.offerRoute` changes notices only. -/

@[simp] theorem State.offerRoute_held (s : State) (d : Side) : (s.offerRoute d).held = s.held := rfl
@[simp] theorem State.offerRoute_link (s : State) (d : Side) : (s.offerRoute d).link = s.link := rfl
@[simp] theorem State.offerRoute_unit (s : State) (d : Side) : (s.offerRoute d).unit = s.unit := rfl
@[simp] theorem State.offerRoute_tables (s : State) (d : Side) : (s.offerRoute d).tables = s.tables := rfl
@[simp] theorem State.offerRoute_formats (s : State) (d : Side) : (s.offerRoute d).formats = s.formats := rfl
@[simp] theorem State.offerRoute_disp (s : State) (d : Side) : (s.offerRoute d).disp = s.disp := rfl
@[simp] theorem State.offerRoute_mirror (s : State) (d : Side) : (s.offerRoute d).mirror = s.mirror := rfl
@[simp] theorem State.offerRoute_steer (s : State) (d : Side) : (s.offerRoute d).steer = s.steer := rfl
@[simp] theorem State.offerRoute_camera (s : State) (d : Side) : (s.offerRoute d).camera = s.camera := rfl
@[simp] theorem State.offerRoute_guide (s : State) (d : Side) : (s.offerRoute d).guide = s.guide := rfl
@[simp] theorem State.offerRoute_rear (s : State) (d : Side) : (s.offerRoute d).rear = s.rear := rfl
@[simp] theorem State.offerRoute_menus (s : State) (d : Side) : (s.offerRoute d).menus = s.menus := rfl
@[simp] theorem State.offerRoute_rings (s : State) (d : Side) : (s.offerRoute d).rings = s.rings := rfl
@[simp] theorem State.offerRoute_outlets (s : State) (d : Side) : (s.offerRoute d).outlets = s.outlets := rfl
@[simp] theorem State.offerRoute_chimes (s : State) (d : Side) : (s.offerRoute d).chimes = s.chimes := rfl
@[simp] theorem State.offerRoute_pending (s : State) (d : Side) : (s.offerRoute d).pending = s.pending := rfl

/-! `State.offerSound` changes notices only. -/

@[simp] theorem State.offerSound_held (s : State) (p : Prog) (x : SoundState) : (s.offerSound p x).held = s.held := rfl
@[simp] theorem State.offerSound_link (s : State) (p : Prog) (x : SoundState) : (s.offerSound p x).link = s.link := rfl
@[simp] theorem State.offerSound_unit (s : State) (p : Prog) (x : SoundState) : (s.offerSound p x).unit = s.unit := rfl
@[simp] theorem State.offerSound_tables (s : State) (p : Prog) (x : SoundState) : (s.offerSound p x).tables = s.tables := rfl
@[simp] theorem State.offerSound_formats (s : State) (p : Prog) (x : SoundState) : (s.offerSound p x).formats = s.formats := rfl
@[simp] theorem State.offerSound_disp (s : State) (p : Prog) (x : SoundState) : (s.offerSound p x).disp = s.disp := rfl
@[simp] theorem State.offerSound_mirror (s : State) (p : Prog) (x : SoundState) : (s.offerSound p x).mirror = s.mirror := rfl
@[simp] theorem State.offerSound_steer (s : State) (p : Prog) (x : SoundState) : (s.offerSound p x).steer = s.steer := rfl
@[simp] theorem State.offerSound_camera (s : State) (p : Prog) (x : SoundState) : (s.offerSound p x).camera = s.camera := rfl
@[simp] theorem State.offerSound_guide (s : State) (p : Prog) (x : SoundState) : (s.offerSound p x).guide = s.guide := rfl
@[simp] theorem State.offerSound_rear (s : State) (p : Prog) (x : SoundState) : (s.offerSound p x).rear = s.rear := rfl
@[simp] theorem State.offerSound_menus (s : State) (p : Prog) (x : SoundState) : (s.offerSound p x).menus = s.menus := rfl
@[simp] theorem State.offerSound_rings (s : State) (p : Prog) (x : SoundState) : (s.offerSound p x).rings = s.rings := rfl
@[simp] theorem State.offerSound_outlets (s : State) (p : Prog) (x : SoundState) : (s.offerSound p x).outlets = s.outlets := rfl
@[simp] theorem State.offerSound_chimes (s : State) (p : Prog) (x : SoundState) : (s.offerSound p x).chimes = s.chimes := rfl
@[simp] theorem State.offerSound_pending (s : State) (p : Prog) (x : SoundState) : (s.offerSound p x).pending = s.pending := rfl

/-! `State.offerPictureNotice` changes notices only. -/

@[simp] theorem State.offerPictureNotice_held (s : State) (d : Side) (x : Picture) : (s.offerPictureNotice d x).held = s.held := rfl
@[simp] theorem State.offerPictureNotice_link (s : State) (d : Side) (x : Picture) : (s.offerPictureNotice d x).link = s.link := rfl
@[simp] theorem State.offerPictureNotice_unit (s : State) (d : Side) (x : Picture) : (s.offerPictureNotice d x).unit = s.unit := rfl
@[simp] theorem State.offerPictureNotice_tables (s : State) (d : Side) (x : Picture) : (s.offerPictureNotice d x).tables = s.tables := rfl
@[simp] theorem State.offerPictureNotice_formats (s : State) (d : Side) (x : Picture) : (s.offerPictureNotice d x).formats = s.formats := rfl
@[simp] theorem State.offerPictureNotice_disp (s : State) (d : Side) (x : Picture) : (s.offerPictureNotice d x).disp = s.disp := rfl
@[simp] theorem State.offerPictureNotice_mirror (s : State) (d : Side) (x : Picture) : (s.offerPictureNotice d x).mirror = s.mirror := rfl
@[simp] theorem State.offerPictureNotice_steer (s : State) (d : Side) (x : Picture) : (s.offerPictureNotice d x).steer = s.steer := rfl
@[simp] theorem State.offerPictureNotice_camera (s : State) (d : Side) (x : Picture) : (s.offerPictureNotice d x).camera = s.camera := rfl
@[simp] theorem State.offerPictureNotice_guide (s : State) (d : Side) (x : Picture) : (s.offerPictureNotice d x).guide = s.guide := rfl
@[simp] theorem State.offerPictureNotice_rear (s : State) (d : Side) (x : Picture) : (s.offerPictureNotice d x).rear = s.rear := rfl
@[simp] theorem State.offerPictureNotice_menus (s : State) (d : Side) (x : Picture) : (s.offerPictureNotice d x).menus = s.menus := rfl
@[simp] theorem State.offerPictureNotice_rings (s : State) (d : Side) (x : Picture) : (s.offerPictureNotice d x).rings = s.rings := rfl
@[simp] theorem State.offerPictureNotice_outlets (s : State) (d : Side) (x : Picture) : (s.offerPictureNotice d x).outlets = s.outlets := rfl
@[simp] theorem State.offerPictureNotice_chimes (s : State) (d : Side) (x : Picture) : (s.offerPictureNotice d x).chimes = s.chimes := rfl
@[simp] theorem State.offerPictureNotice_pending (s : State) (d : Side) (x : Picture) : (s.offerPictureNotice d x).pending = s.pending := rfl

/-! `State.offerReverse` changes notices only. -/

@[simp] theorem State.offerReverse_held (s : State) : (s.offerReverse).held = s.held := rfl
@[simp] theorem State.offerReverse_link (s : State) : (s.offerReverse).link = s.link := rfl
@[simp] theorem State.offerReverse_unit (s : State) : (s.offerReverse).unit = s.unit := rfl
@[simp] theorem State.offerReverse_tables (s : State) : (s.offerReverse).tables = s.tables := rfl
@[simp] theorem State.offerReverse_formats (s : State) : (s.offerReverse).formats = s.formats := rfl
@[simp] theorem State.offerReverse_disp (s : State) : (s.offerReverse).disp = s.disp := rfl
@[simp] theorem State.offerReverse_mirror (s : State) : (s.offerReverse).mirror = s.mirror := rfl
@[simp] theorem State.offerReverse_steer (s : State) : (s.offerReverse).steer = s.steer := rfl
@[simp] theorem State.offerReverse_camera (s : State) : (s.offerReverse).camera = s.camera := rfl
@[simp] theorem State.offerReverse_guide (s : State) : (s.offerReverse).guide = s.guide := rfl
@[simp] theorem State.offerReverse_rear (s : State) : (s.offerReverse).rear = s.rear := rfl
@[simp] theorem State.offerReverse_menus (s : State) : (s.offerReverse).menus = s.menus := rfl
@[simp] theorem State.offerReverse_rings (s : State) : (s.offerReverse).rings = s.rings := rfl
@[simp] theorem State.offerReverse_outlets (s : State) : (s.offerReverse).outlets = s.outlets := rfl
@[simp] theorem State.offerReverse_chimes (s : State) : (s.offerReverse).chimes = s.chimes := rfl
@[simp] theorem State.offerReverse_pending (s : State) : (s.offerReverse).pending = s.pending := rfl

/-! `State.claimRings` changes rings only. -/

@[simp] theorem State.claimRings_held (s : State) : (s.claimRings).held = s.held := rfl
@[simp] theorem State.claimRings_link (s : State) : (s.claimRings).link = s.link := rfl
@[simp] theorem State.claimRings_unit (s : State) : (s.claimRings).unit = s.unit := rfl
@[simp] theorem State.claimRings_tables (s : State) : (s.claimRings).tables = s.tables := rfl
@[simp] theorem State.claimRings_notices (s : State) : (s.claimRings).notices = s.notices := rfl
@[simp] theorem State.claimRings_formats (s : State) : (s.claimRings).formats = s.formats := rfl
@[simp] theorem State.claimRings_disp (s : State) : (s.claimRings).disp = s.disp := rfl
@[simp] theorem State.claimRings_mirror (s : State) : (s.claimRings).mirror = s.mirror := rfl
@[simp] theorem State.claimRings_steer (s : State) : (s.claimRings).steer = s.steer := rfl
@[simp] theorem State.claimRings_camera (s : State) : (s.claimRings).camera = s.camera := rfl
@[simp] theorem State.claimRings_guide (s : State) : (s.claimRings).guide = s.guide := rfl
@[simp] theorem State.claimRings_rear (s : State) : (s.claimRings).rear = s.rear := rfl
@[simp] theorem State.claimRings_menus (s : State) : (s.claimRings).menus = s.menus := rfl
@[simp] theorem State.claimRings_outlets (s : State) : (s.claimRings).outlets = s.outlets := rfl
@[simp] theorem State.claimRings_chimes (s : State) : (s.claimRings).chimes = s.chimes := rfl
@[simp] theorem State.claimRings_pending (s : State) : (s.claimRings).pending = s.pending := rfl

/-! `State.advanceVoices` changes chimes only. -/

@[simp] theorem State.advanceVoices_held (s : State) : (s.advanceVoices).held = s.held := rfl
@[simp] theorem State.advanceVoices_link (s : State) : (s.advanceVoices).link = s.link := rfl
@[simp] theorem State.advanceVoices_unit (s : State) : (s.advanceVoices).unit = s.unit := rfl
@[simp] theorem State.advanceVoices_tables (s : State) : (s.advanceVoices).tables = s.tables := rfl
@[simp] theorem State.advanceVoices_notices (s : State) : (s.advanceVoices).notices = s.notices := rfl
@[simp] theorem State.advanceVoices_formats (s : State) : (s.advanceVoices).formats = s.formats := rfl
@[simp] theorem State.advanceVoices_disp (s : State) : (s.advanceVoices).disp = s.disp := rfl
@[simp] theorem State.advanceVoices_mirror (s : State) : (s.advanceVoices).mirror = s.mirror := rfl
@[simp] theorem State.advanceVoices_steer (s : State) : (s.advanceVoices).steer = s.steer := rfl
@[simp] theorem State.advanceVoices_camera (s : State) : (s.advanceVoices).camera = s.camera := rfl
@[simp] theorem State.advanceVoices_guide (s : State) : (s.advanceVoices).guide = s.guide := rfl
@[simp] theorem State.advanceVoices_rear (s : State) : (s.advanceVoices).rear = s.rear := rfl
@[simp] theorem State.advanceVoices_menus (s : State) : (s.advanceVoices).menus = s.menus := rfl
@[simp] theorem State.advanceVoices_rings (s : State) : (s.advanceVoices).rings = s.rings := rfl
@[simp] theorem State.advanceVoices_outlets (s : State) : (s.advanceVoices).outlets = s.outlets := rfl
@[simp] theorem State.advanceVoices_pending (s : State) : (s.advanceVoices).pending = s.pending := rfl

/-! `State.mix` changes tables, outlets only. -/

@[simp] theorem State.mix_held (s : State) (f : Quad Stereo) : (s.mix f).held = s.held := by
  simp only [State.mix, State.bump_held]
@[simp] theorem State.mix_link (s : State) (f : Quad Stereo) : (s.mix f).link = s.link := by
  simp only [State.mix, State.bump_link]
@[simp] theorem State.mix_unit (s : State) (f : Quad Stereo) : (s.mix f).unit = s.unit := by
  simp only [State.mix, State.bump_unit]
@[simp] theorem State.mix_notices (s : State) (f : Quad Stereo) : (s.mix f).notices = s.notices := by
  simp only [State.mix, State.bump_notices]
@[simp] theorem State.mix_formats (s : State) (f : Quad Stereo) : (s.mix f).formats = s.formats := by
  simp only [State.mix, State.bump_formats]
@[simp] theorem State.mix_disp (s : State) (f : Quad Stereo) : (s.mix f).disp = s.disp := by
  simp only [State.mix, State.bump_disp]
@[simp] theorem State.mix_mirror (s : State) (f : Quad Stereo) : (s.mix f).mirror = s.mirror := by
  simp only [State.mix, State.bump_mirror]
@[simp] theorem State.mix_steer (s : State) (f : Quad Stereo) : (s.mix f).steer = s.steer := by
  simp only [State.mix, State.bump_steer]
@[simp] theorem State.mix_camera (s : State) (f : Quad Stereo) : (s.mix f).camera = s.camera := by
  simp only [State.mix, State.bump_camera]
@[simp] theorem State.mix_guide (s : State) (f : Quad Stereo) : (s.mix f).guide = s.guide := by
  simp only [State.mix, State.bump_guide]
@[simp] theorem State.mix_rear (s : State) (f : Quad Stereo) : (s.mix f).rear = s.rear := by
  simp only [State.mix, State.bump_rear]
@[simp] theorem State.mix_menus (s : State) (f : Quad Stereo) : (s.mix f).menus = s.menus := by
  simp only [State.mix, State.bump_menus]
@[simp] theorem State.mix_rings (s : State) (f : Quad Stereo) : (s.mix f).rings = s.rings := by
  simp only [State.mix, State.bump_rings]
@[simp] theorem State.mix_chimes (s : State) (f : Quad Stereo) : (s.mix f).chimes = s.chimes := by
  simp only [State.mix, State.bump_chimes]
@[simp] theorem State.mix_pending (s : State) (f : Quad Stereo) : (s.mix f).pending = s.pending := by
  simp only [State.mix, State.bump_pending]

/-! `State.latchMenu` changes disp only. -/

@[simp] theorem State.latchMenu_held (s : State) (d : Side) : (s.latchMenu d).held = s.held := rfl
@[simp] theorem State.latchMenu_link (s : State) (d : Side) : (s.latchMenu d).link = s.link := rfl
@[simp] theorem State.latchMenu_unit (s : State) (d : Side) : (s.latchMenu d).unit = s.unit := rfl
@[simp] theorem State.latchMenu_tables (s : State) (d : Side) : (s.latchMenu d).tables = s.tables := rfl
@[simp] theorem State.latchMenu_notices (s : State) (d : Side) : (s.latchMenu d).notices = s.notices := rfl
@[simp] theorem State.latchMenu_formats (s : State) (d : Side) : (s.latchMenu d).formats = s.formats := rfl
@[simp] theorem State.latchMenu_mirror (s : State) (d : Side) : (s.latchMenu d).mirror = s.mirror := rfl
@[simp] theorem State.latchMenu_steer (s : State) (d : Side) : (s.latchMenu d).steer = s.steer := rfl
@[simp] theorem State.latchMenu_camera (s : State) (d : Side) : (s.latchMenu d).camera = s.camera := rfl
@[simp] theorem State.latchMenu_guide (s : State) (d : Side) : (s.latchMenu d).guide = s.guide := rfl
@[simp] theorem State.latchMenu_rear (s : State) (d : Side) : (s.latchMenu d).rear = s.rear := rfl
@[simp] theorem State.latchMenu_menus (s : State) (d : Side) : (s.latchMenu d).menus = s.menus := rfl
@[simp] theorem State.latchMenu_rings (s : State) (d : Side) : (s.latchMenu d).rings = s.rings := rfl
@[simp] theorem State.latchMenu_outlets (s : State) (d : Side) : (s.latchMenu d).outlets = s.outlets := rfl
@[simp] theorem State.latchMenu_chimes (s : State) (d : Side) : (s.latchMenu d).chimes = s.chimes := rfl
@[simp] theorem State.latchMenu_pending (s : State) (d : Side) : (s.latchMenu d).pending = s.pending := rfl

/-! `State.beginCameraFrame` changes steer, camera, guide only. -/

@[simp] theorem State.beginCameraFrame_held (s : State) (b : Bool) : (s.beginCameraFrame b).held = s.held := rfl
@[simp] theorem State.beginCameraFrame_link (s : State) (b : Bool) : (s.beginCameraFrame b).link = s.link := rfl
@[simp] theorem State.beginCameraFrame_unit (s : State) (b : Bool) : (s.beginCameraFrame b).unit = s.unit := rfl
@[simp] theorem State.beginCameraFrame_tables (s : State) (b : Bool) : (s.beginCameraFrame b).tables = s.tables := rfl
@[simp] theorem State.beginCameraFrame_notices (s : State) (b : Bool) : (s.beginCameraFrame b).notices = s.notices := rfl
@[simp] theorem State.beginCameraFrame_formats (s : State) (b : Bool) : (s.beginCameraFrame b).formats = s.formats := rfl
@[simp] theorem State.beginCameraFrame_disp (s : State) (b : Bool) : (s.beginCameraFrame b).disp = s.disp := rfl
@[simp] theorem State.beginCameraFrame_mirror (s : State) (b : Bool) : (s.beginCameraFrame b).mirror = s.mirror := rfl
@[simp] theorem State.beginCameraFrame_rear (s : State) (b : Bool) : (s.beginCameraFrame b).rear = s.rear := rfl
@[simp] theorem State.beginCameraFrame_menus (s : State) (b : Bool) : (s.beginCameraFrame b).menus = s.menus := rfl
@[simp] theorem State.beginCameraFrame_rings (s : State) (b : Bool) : (s.beginCameraFrame b).rings = s.rings := rfl
@[simp] theorem State.beginCameraFrame_outlets (s : State) (b : Bool) : (s.beginCameraFrame b).outlets = s.outlets := rfl
@[simp] theorem State.beginCameraFrame_chimes (s : State) (b : Bool) : (s.beginCameraFrame b).chimes = s.chimes := rfl
@[simp] theorem State.beginCameraFrame_pending (s : State) (b : Bool) : (s.beginCameraFrame b).pending = s.pending := rfl

/-! `State.stopMediaSide` changes unit, formats, mirror, menus, rings, outlets, chimes only. -/

@[simp] theorem State.stopMediaSide_held (s : State) : (s.stopMediaSide).held = s.held := rfl
@[simp] theorem State.stopMediaSide_link (s : State) : (s.stopMediaSide).link = s.link := rfl
@[simp] theorem State.stopMediaSide_tables (s : State) : (s.stopMediaSide).tables = s.tables := rfl
@[simp] theorem State.stopMediaSide_notices (s : State) : (s.stopMediaSide).notices = s.notices := rfl
@[simp] theorem State.stopMediaSide_disp (s : State) : (s.stopMediaSide).disp = s.disp := rfl
@[simp] theorem State.stopMediaSide_steer (s : State) : (s.stopMediaSide).steer = s.steer := rfl
@[simp] theorem State.stopMediaSide_camera (s : State) : (s.stopMediaSide).camera = s.camera := rfl
@[simp] theorem State.stopMediaSide_guide (s : State) : (s.stopMediaSide).guide = s.guide := rfl
@[simp] theorem State.stopMediaSide_rear (s : State) : (s.stopMediaSide).rear = s.rear := rfl
@[simp] theorem State.stopMediaSide_pending (s : State) : (s.stopMediaSide).pending = s.pending := rfl

/-! `State.putRow` changes disp only. -/

@[simp] theorem State.putRow_held (s : State) (d : Side) (c : Table) (r : Option RowSource) (y : Nat) : (s.putRow d c r y).held = s.held := rfl
@[simp] theorem State.putRow_link (s : State) (d : Side) (c : Table) (r : Option RowSource) (y : Nat) : (s.putRow d c r y).link = s.link := rfl
@[simp] theorem State.putRow_unit (s : State) (d : Side) (c : Table) (r : Option RowSource) (y : Nat) : (s.putRow d c r y).unit = s.unit := rfl
@[simp] theorem State.putRow_tables (s : State) (d : Side) (c : Table) (r : Option RowSource) (y : Nat) : (s.putRow d c r y).tables = s.tables := rfl
@[simp] theorem State.putRow_notices (s : State) (d : Side) (c : Table) (r : Option RowSource) (y : Nat) : (s.putRow d c r y).notices = s.notices := rfl
@[simp] theorem State.putRow_formats (s : State) (d : Side) (c : Table) (r : Option RowSource) (y : Nat) : (s.putRow d c r y).formats = s.formats := rfl
@[simp] theorem State.putRow_mirror (s : State) (d : Side) (c : Table) (r : Option RowSource) (y : Nat) : (s.putRow d c r y).mirror = s.mirror := rfl
@[simp] theorem State.putRow_steer (s : State) (d : Side) (c : Table) (r : Option RowSource) (y : Nat) : (s.putRow d c r y).steer = s.steer := rfl
@[simp] theorem State.putRow_camera (s : State) (d : Side) (c : Table) (r : Option RowSource) (y : Nat) : (s.putRow d c r y).camera = s.camera := rfl
@[simp] theorem State.putRow_guide (s : State) (d : Side) (c : Table) (r : Option RowSource) (y : Nat) : (s.putRow d c r y).guide = s.guide := rfl
@[simp] theorem State.putRow_rear (s : State) (d : Side) (c : Table) (r : Option RowSource) (y : Nat) : (s.putRow d c r y).rear = s.rear := rfl
@[simp] theorem State.putRow_menus (s : State) (d : Side) (c : Table) (r : Option RowSource) (y : Nat) : (s.putRow d c r y).menus = s.menus := rfl
@[simp] theorem State.putRow_rings (s : State) (d : Side) (c : Table) (r : Option RowSource) (y : Nat) : (s.putRow d c r y).rings = s.rings := rfl
@[simp] theorem State.putRow_outlets (s : State) (d : Side) (c : Table) (r : Option RowSource) (y : Nat) : (s.putRow d c r y).outlets = s.outlets := rfl
@[simp] theorem State.putRow_chimes (s : State) (d : Side) (c : Table) (r : Option RowSource) (y : Nat) : (s.putRow d c r y).chimes = s.chimes := rfl
@[simp] theorem State.putRow_pending (s : State) (d : Side) (c : Table) (r : Option RowSource) (y : Nat) : (s.putRow d c r y).pending = s.pending := rfl

/-! `State.offerPicture` changes tables, rear only. -/

@[simp] theorem State.offerPicture_held (s : State) (p : UpPicture) : (s.offerPicture p).held = s.held := by
  unfold State.offerPicture; split
  · rfl
  · split <;> rfl
@[simp] theorem State.offerPicture_link (s : State) (p : UpPicture) : (s.offerPicture p).link = s.link := by
  unfold State.offerPicture; split
  · rfl
  · split <;> rfl
@[simp] theorem State.offerPicture_unit (s : State) (p : UpPicture) : (s.offerPicture p).unit = s.unit := by
  unfold State.offerPicture; split
  · rfl
  · split <;> rfl
@[simp] theorem State.offerPicture_notices (s : State) (p : UpPicture) : (s.offerPicture p).notices = s.notices := by
  unfold State.offerPicture; split
  · rfl
  · split <;> rfl
@[simp] theorem State.offerPicture_formats (s : State) (p : UpPicture) : (s.offerPicture p).formats = s.formats := by
  unfold State.offerPicture; split
  · rfl
  · split <;> rfl
@[simp] theorem State.offerPicture_disp (s : State) (p : UpPicture) : (s.offerPicture p).disp = s.disp := by
  unfold State.offerPicture; split
  · rfl
  · split <;> rfl
@[simp] theorem State.offerPicture_mirror (s : State) (p : UpPicture) : (s.offerPicture p).mirror = s.mirror := by
  unfold State.offerPicture; split
  · rfl
  · split <;> rfl
@[simp] theorem State.offerPicture_steer (s : State) (p : UpPicture) : (s.offerPicture p).steer = s.steer := by
  unfold State.offerPicture; split
  · rfl
  · split <;> rfl
@[simp] theorem State.offerPicture_camera (s : State) (p : UpPicture) : (s.offerPicture p).camera = s.camera := by
  unfold State.offerPicture; split
  · rfl
  · split <;> rfl
@[simp] theorem State.offerPicture_guide (s : State) (p : UpPicture) : (s.offerPicture p).guide = s.guide := by
  unfold State.offerPicture; split
  · rfl
  · split <;> rfl
@[simp] theorem State.offerPicture_menus (s : State) (p : UpPicture) : (s.offerPicture p).menus = s.menus := by
  unfold State.offerPicture; split
  · rfl
  · split <;> rfl
@[simp] theorem State.offerPicture_rings (s : State) (p : UpPicture) : (s.offerPicture p).rings = s.rings := by
  unfold State.offerPicture; split
  · rfl
  · split <;> rfl
@[simp] theorem State.offerPicture_outlets (s : State) (p : UpPicture) : (s.offerPicture p).outlets = s.outlets := by
  unfold State.offerPicture; split
  · rfl
  · split <;> rfl
@[simp] theorem State.offerPicture_chimes (s : State) (p : UpPicture) : (s.offerPicture p).chimes = s.chimes := by
  unfold State.offerPicture; split
  · rfl
  · split <;> rfl
@[simp] theorem State.offerPicture_pending (s : State) (p : UpPicture) : (s.offerPicture p).pending = s.pending := by
  unfold State.offerPicture; split
  · rfl
  · split <;> rfl

/-! `State.handOff` changes link, unit, tables only. -/

@[simp] theorem State.handOff_held (s : State) (r : Reply) : (s.handOff r).held = s.held := by
  unfold State.handOff; split <;> rfl
@[simp] theorem State.handOff_notices (s : State) (r : Reply) : (s.handOff r).notices = s.notices := by
  unfold State.handOff; split <;> rfl
@[simp] theorem State.handOff_formats (s : State) (r : Reply) : (s.handOff r).formats = s.formats := by
  unfold State.handOff; split <;> rfl
@[simp] theorem State.handOff_disp (s : State) (r : Reply) : (s.handOff r).disp = s.disp := by
  unfold State.handOff; split <;> rfl
@[simp] theorem State.handOff_mirror (s : State) (r : Reply) : (s.handOff r).mirror = s.mirror := by
  unfold State.handOff; split <;> rfl
@[simp] theorem State.handOff_steer (s : State) (r : Reply) : (s.handOff r).steer = s.steer := by
  unfold State.handOff; split <;> rfl
@[simp] theorem State.handOff_camera (s : State) (r : Reply) : (s.handOff r).camera = s.camera := by
  unfold State.handOff; split <;> rfl
@[simp] theorem State.handOff_guide (s : State) (r : Reply) : (s.handOff r).guide = s.guide := by
  unfold State.handOff; split <;> rfl
@[simp] theorem State.handOff_rear (s : State) (r : Reply) : (s.handOff r).rear = s.rear := by
  unfold State.handOff; split <;> rfl
@[simp] theorem State.handOff_menus (s : State) (r : Reply) : (s.handOff r).menus = s.menus := by
  unfold State.handOff; split <;> rfl
@[simp] theorem State.handOff_rings (s : State) (r : Reply) : (s.handOff r).rings = s.rings := by
  unfold State.handOff; split <;> rfl
@[simp] theorem State.handOff_outlets (s : State) (r : Reply) : (s.handOff r).outlets = s.outlets := by
  unfold State.handOff; split <;> rfl
@[simp] theorem State.handOff_chimes (s : State) (r : Reply) : (s.handOff r).chimes = s.chimes := by
  unfold State.handOff; split <;> rfl
@[simp] theorem State.handOff_pending (s : State) (r : Reply) : (s.handOff r).pending = s.pending := by
  unfold State.handOff; split <;> rfl

/-! `State.emptySlot` changes link, unit only. -/

@[simp] theorem State.emptySlot_held (s : State) : (s.emptySlot).held = s.held := by
  unfold State.emptySlot; split <;> rfl
@[simp] theorem State.emptySlot_tables (s : State) : (s.emptySlot).tables = s.tables := by
  unfold State.emptySlot; split <;> rfl
@[simp] theorem State.emptySlot_notices (s : State) : (s.emptySlot).notices = s.notices := by
  unfold State.emptySlot; split <;> rfl
@[simp] theorem State.emptySlot_formats (s : State) : (s.emptySlot).formats = s.formats := by
  unfold State.emptySlot; split <;> rfl
@[simp] theorem State.emptySlot_disp (s : State) : (s.emptySlot).disp = s.disp := by
  unfold State.emptySlot; split <;> rfl
@[simp] theorem State.emptySlot_mirror (s : State) : (s.emptySlot).mirror = s.mirror := by
  unfold State.emptySlot; split <;> rfl
@[simp] theorem State.emptySlot_steer (s : State) : (s.emptySlot).steer = s.steer := by
  unfold State.emptySlot; split <;> rfl
@[simp] theorem State.emptySlot_camera (s : State) : (s.emptySlot).camera = s.camera := by
  unfold State.emptySlot; split <;> rfl
@[simp] theorem State.emptySlot_guide (s : State) : (s.emptySlot).guide = s.guide := by
  unfold State.emptySlot; split <;> rfl
@[simp] theorem State.emptySlot_rear (s : State) : (s.emptySlot).rear = s.rear := by
  unfold State.emptySlot; split <;> rfl
@[simp] theorem State.emptySlot_menus (s : State) : (s.emptySlot).menus = s.menus := by
  unfold State.emptySlot; split <;> rfl
@[simp] theorem State.emptySlot_rings (s : State) : (s.emptySlot).rings = s.rings := by
  unfold State.emptySlot; split <;> rfl
@[simp] theorem State.emptySlot_outlets (s : State) : (s.emptySlot).outlets = s.outlets := by
  unfold State.emptySlot; split <;> rfl
@[simp] theorem State.emptySlot_chimes (s : State) : (s.emptySlot).chimes = s.chimes := by
  unfold State.emptySlot; split <;> rfl
@[simp] theorem State.emptySlot_pending (s : State) : (s.emptySlot).pending = s.pending := by
  unfold State.emptySlot; split <;> rfl

/-! `State.finish` changes link, unit, tables only. -/

@[simp] theorem State.finish_held (s : State) (r : QueuedRequest) (c : ReplyCode) (ws : List Word) (k : Option RestartKind) : (s.finish r c ws k).held = s.held := by
  unfold State.finish State.handOff; split
  · split
    · split <;> rfl
    · rfl
  · split <;> rfl
@[simp] theorem State.finish_notices (s : State) (r : QueuedRequest) (c : ReplyCode) (ws : List Word) (k : Option RestartKind) : (s.finish r c ws k).notices = s.notices := by
  unfold State.finish State.handOff; split
  · split
    · split <;> rfl
    · rfl
  · split <;> rfl
@[simp] theorem State.finish_formats (s : State) (r : QueuedRequest) (c : ReplyCode) (ws : List Word) (k : Option RestartKind) : (s.finish r c ws k).formats = s.formats := by
  unfold State.finish State.handOff; split
  · split
    · split <;> rfl
    · rfl
  · split <;> rfl
@[simp] theorem State.finish_disp (s : State) (r : QueuedRequest) (c : ReplyCode) (ws : List Word) (k : Option RestartKind) : (s.finish r c ws k).disp = s.disp := by
  unfold State.finish State.handOff; split
  · split
    · split <;> rfl
    · rfl
  · split <;> rfl
@[simp] theorem State.finish_mirror (s : State) (r : QueuedRequest) (c : ReplyCode) (ws : List Word) (k : Option RestartKind) : (s.finish r c ws k).mirror = s.mirror := by
  unfold State.finish State.handOff; split
  · split
    · split <;> rfl
    · rfl
  · split <;> rfl
@[simp] theorem State.finish_steer (s : State) (r : QueuedRequest) (c : ReplyCode) (ws : List Word) (k : Option RestartKind) : (s.finish r c ws k).steer = s.steer := by
  unfold State.finish State.handOff; split
  · split
    · split <;> rfl
    · rfl
  · split <;> rfl
@[simp] theorem State.finish_camera (s : State) (r : QueuedRequest) (c : ReplyCode) (ws : List Word) (k : Option RestartKind) : (s.finish r c ws k).camera = s.camera := by
  unfold State.finish State.handOff; split
  · split
    · split <;> rfl
    · rfl
  · split <;> rfl
@[simp] theorem State.finish_guide (s : State) (r : QueuedRequest) (c : ReplyCode) (ws : List Word) (k : Option RestartKind) : (s.finish r c ws k).guide = s.guide := by
  unfold State.finish State.handOff; split
  · split
    · split <;> rfl
    · rfl
  · split <;> rfl
@[simp] theorem State.finish_rear (s : State) (r : QueuedRequest) (c : ReplyCode) (ws : List Word) (k : Option RestartKind) : (s.finish r c ws k).rear = s.rear := by
  unfold State.finish State.handOff; split
  · split
    · split <;> rfl
    · rfl
  · split <;> rfl
@[simp] theorem State.finish_menus (s : State) (r : QueuedRequest) (c : ReplyCode) (ws : List Word) (k : Option RestartKind) : (s.finish r c ws k).menus = s.menus := by
  unfold State.finish State.handOff; split
  · split
    · split <;> rfl
    · rfl
  · split <;> rfl
@[simp] theorem State.finish_rings (s : State) (r : QueuedRequest) (c : ReplyCode) (ws : List Word) (k : Option RestartKind) : (s.finish r c ws k).rings = s.rings := by
  unfold State.finish State.handOff; split
  · split
    · split <;> rfl
    · rfl
  · split <;> rfl
@[simp] theorem State.finish_outlets (s : State) (r : QueuedRequest) (c : ReplyCode) (ws : List Word) (k : Option RestartKind) : (s.finish r c ws k).outlets = s.outlets := by
  unfold State.finish State.handOff; split
  · split
    · split <;> rfl
    · rfl
  · split <;> rfl
@[simp] theorem State.finish_chimes (s : State) (r : QueuedRequest) (c : ReplyCode) (ws : List Word) (k : Option RestartKind) : (s.finish r c ws k).chimes = s.chimes := by
  unfold State.finish State.handOff; split
  · split
    · split <;> rfl
    · rfl
  · split <;> rfl
@[simp] theorem State.finish_pending (s : State) (r : QueuedRequest) (c : ReplyCode) (ws : List Word) (k : Option RestartKind) : (s.finish r c ws k).pending = s.pending := by
  unfold State.finish State.handOff; split
  · split
    · split <;> rfl
    · rfl
  · split <;> rfl

/-! `State.offerRequest` changes unit, tables only. -/

@[simp] theorem State.offerRequest_held (s : State) (r : QueuedRequest) : (s.offerRequest r).held = s.held := by
  unfold State.offerRequest; split <;> rfl
@[simp] theorem State.offerRequest_link (s : State) (r : QueuedRequest) : (s.offerRequest r).link = s.link := by
  unfold State.offerRequest; split <;> rfl
@[simp] theorem State.offerRequest_notices (s : State) (r : QueuedRequest) : (s.offerRequest r).notices = s.notices := by
  unfold State.offerRequest; split <;> rfl
@[simp] theorem State.offerRequest_formats (s : State) (r : QueuedRequest) : (s.offerRequest r).formats = s.formats := by
  unfold State.offerRequest; split <;> rfl
@[simp] theorem State.offerRequest_disp (s : State) (r : QueuedRequest) : (s.offerRequest r).disp = s.disp := by
  unfold State.offerRequest; split <;> rfl
@[simp] theorem State.offerRequest_mirror (s : State) (r : QueuedRequest) : (s.offerRequest r).mirror = s.mirror := by
  unfold State.offerRequest; split <;> rfl
@[simp] theorem State.offerRequest_steer (s : State) (r : QueuedRequest) : (s.offerRequest r).steer = s.steer := by
  unfold State.offerRequest; split <;> rfl
@[simp] theorem State.offerRequest_camera (s : State) (r : QueuedRequest) : (s.offerRequest r).camera = s.camera := by
  unfold State.offerRequest; split <;> rfl
@[simp] theorem State.offerRequest_guide (s : State) (r : QueuedRequest) : (s.offerRequest r).guide = s.guide := by
  unfold State.offerRequest; split <;> rfl
@[simp] theorem State.offerRequest_rear (s : State) (r : QueuedRequest) : (s.offerRequest r).rear = s.rear := by
  unfold State.offerRequest; split <;> rfl
@[simp] theorem State.offerRequest_menus (s : State) (r : QueuedRequest) : (s.offerRequest r).menus = s.menus := by
  unfold State.offerRequest; split <;> rfl
@[simp] theorem State.offerRequest_rings (s : State) (r : QueuedRequest) : (s.offerRequest r).rings = s.rings := by
  unfold State.offerRequest; split <;> rfl
@[simp] theorem State.offerRequest_outlets (s : State) (r : QueuedRequest) : (s.offerRequest r).outlets = s.outlets := by
  unfold State.offerRequest; split <;> rfl
@[simp] theorem State.offerRequest_chimes (s : State) (r : QueuedRequest) : (s.offerRequest r).chimes = s.chimes := by
  unfold State.offerRequest; split <;> rfl
@[simp] theorem State.offerRequest_pending (s : State) (r : QueuedRequest) : (s.offerRequest r).pending = s.pending := by
  unfold State.offerRequest; split <;> rfl

/-! `State.followView` changes rear, mirror only. -/

@[simp] theorem State.followView_held (s : State) : (s.followView).held = s.held := by
  unfold State.followView; split <;> rfl
@[simp] theorem State.followView_link (s : State) : (s.followView).link = s.link := by
  unfold State.followView; split <;> rfl
@[simp] theorem State.followView_unit (s : State) : (s.followView).unit = s.unit := by
  unfold State.followView; split <;> rfl
@[simp] theorem State.followView_tables (s : State) : (s.followView).tables = s.tables := by
  unfold State.followView; split <;> rfl
@[simp] theorem State.followView_notices (s : State) : (s.followView).notices = s.notices := by
  unfold State.followView; split <;> rfl
@[simp] theorem State.followView_formats (s : State) : (s.followView).formats = s.formats := by
  unfold State.followView; split <;> rfl
@[simp] theorem State.followView_disp (s : State) : (s.followView).disp = s.disp := by
  unfold State.followView; split <;> rfl
@[simp] theorem State.followView_steer (s : State) : (s.followView).steer = s.steer := by
  unfold State.followView; split <;> rfl
@[simp] theorem State.followView_camera (s : State) : (s.followView).camera = s.camera := by
  unfold State.followView; split <;> rfl
@[simp] theorem State.followView_guide (s : State) : (s.followView).guide = s.guide := by
  unfold State.followView; split <;> rfl
@[simp] theorem State.followView_menus (s : State) : (s.followView).menus = s.menus := by
  unfold State.followView; split <;> rfl
@[simp] theorem State.followView_rings (s : State) : (s.followView).rings = s.rings := by
  unfold State.followView; split <;> rfl
@[simp] theorem State.followView_outlets (s : State) : (s.followView).outlets = s.outlets := by
  unfold State.followView; split <;> rfl
@[simp] theorem State.followView_chimes (s : State) : (s.followView).chimes = s.chimes := by
  unfold State.followView; split <;> rfl
@[simp] theorem State.followView_pending (s : State) : (s.followView).pending = s.pending := by
  unfold State.followView; split <;> rfl

/-! `State.refreshView` changes rear, mirror, notices only. -/

@[simp] theorem State.refreshView_held (s : State) : (s.refreshView).held = s.held := by
  unfold State.refreshView State.followView; split
  · rfl
  · simp_all
@[simp] theorem State.refreshView_link (s : State) : (s.refreshView).link = s.link := by
  unfold State.refreshView State.followView; split
  · rfl
  · simp_all
@[simp] theorem State.refreshView_unit (s : State) : (s.refreshView).unit = s.unit := by
  unfold State.refreshView State.followView; split
  · rfl
  · simp_all
@[simp] theorem State.refreshView_tables (s : State) : (s.refreshView).tables = s.tables := by
  unfold State.refreshView State.followView; split
  · rfl
  · simp_all
@[simp] theorem State.refreshView_formats (s : State) : (s.refreshView).formats = s.formats := by
  unfold State.refreshView State.followView; split
  · rfl
  · simp_all
@[simp] theorem State.refreshView_disp (s : State) : (s.refreshView).disp = s.disp := by
  unfold State.refreshView State.followView; split
  · rfl
  · simp_all
@[simp] theorem State.refreshView_steer (s : State) : (s.refreshView).steer = s.steer := by
  unfold State.refreshView State.followView; split
  · rfl
  · simp_all
@[simp] theorem State.refreshView_camera (s : State) : (s.refreshView).camera = s.camera := by
  unfold State.refreshView State.followView; split
  · rfl
  · simp_all
@[simp] theorem State.refreshView_guide (s : State) : (s.refreshView).guide = s.guide := by
  unfold State.refreshView State.followView; split
  · rfl
  · simp_all
@[simp] theorem State.refreshView_menus (s : State) : (s.refreshView).menus = s.menus := by
  unfold State.refreshView State.followView; split
  · rfl
  · simp_all
@[simp] theorem State.refreshView_rings (s : State) : (s.refreshView).rings = s.rings := by
  unfold State.refreshView State.followView; split
  · rfl
  · simp_all
@[simp] theorem State.refreshView_outlets (s : State) : (s.refreshView).outlets = s.outlets := by
  unfold State.refreshView State.followView; split
  · rfl
  · simp_all
@[simp] theorem State.refreshView_chimes (s : State) : (s.refreshView).chimes = s.chimes := by
  unfold State.refreshView State.followView; split
  · rfl
  · simp_all
@[simp] theorem State.refreshView_pending (s : State) : (s.refreshView).pending = s.pending := by
  unfold State.refreshView State.followView; split
  · rfl
  · simp_all

/-! `State.setSteer` changes steer, notices only. -/

@[simp] theorem State.setSteer_held (s : State) (x : Steering) : (s.setSteer x).held = s.held := by
  simp only [State.setSteer]; split <;> rfl
@[simp] theorem State.setSteer_link (s : State) (x : Steering) : (s.setSteer x).link = s.link := by
  simp only [State.setSteer]; split <;> rfl
@[simp] theorem State.setSteer_unit (s : State) (x : Steering) : (s.setSteer x).unit = s.unit := by
  simp only [State.setSteer]; split <;> rfl
@[simp] theorem State.setSteer_tables (s : State) (x : Steering) : (s.setSteer x).tables = s.tables := by
  simp only [State.setSteer]; split <;> rfl
@[simp] theorem State.setSteer_formats (s : State) (x : Steering) : (s.setSteer x).formats = s.formats := by
  simp only [State.setSteer]; split <;> rfl
@[simp] theorem State.setSteer_disp (s : State) (x : Steering) : (s.setSteer x).disp = s.disp := by
  simp only [State.setSteer]; split <;> rfl
@[simp] theorem State.setSteer_mirror (s : State) (x : Steering) : (s.setSteer x).mirror = s.mirror := by
  simp only [State.setSteer]; split <;> rfl
@[simp] theorem State.setSteer_camera (s : State) (x : Steering) : (s.setSteer x).camera = s.camera := by
  simp only [State.setSteer]; split <;> rfl
@[simp] theorem State.setSteer_guide (s : State) (x : Steering) : (s.setSteer x).guide = s.guide := by
  simp only [State.setSteer]; split <;> rfl
@[simp] theorem State.setSteer_rear (s : State) (x : Steering) : (s.setSteer x).rear = s.rear := by
  simp only [State.setSteer]; split <;> rfl
@[simp] theorem State.setSteer_menus (s : State) (x : Steering) : (s.setSteer x).menus = s.menus := by
  simp only [State.setSteer]; split <;> rfl
@[simp] theorem State.setSteer_rings (s : State) (x : Steering) : (s.setSteer x).rings = s.rings := by
  simp only [State.setSteer]; split <;> rfl
@[simp] theorem State.setSteer_outlets (s : State) (x : Steering) : (s.setSteer x).outlets = s.outlets := by
  simp only [State.setSteer]; split <;> rfl
@[simp] theorem State.setSteer_chimes (s : State) (x : Steering) : (s.setSteer x).chimes = s.chimes := by
  simp only [State.setSteer]; split <;> rfl
@[simp] theorem State.setSteer_pending (s : State) (x : Steering) : (s.setSteer x).pending = s.pending := by
  simp only [State.setSteer]; split <;> rfl

/-! `State.bufferRow` changes camera, tables only. -/

@[simp] theorem State.bufferRow_held (s : State) (r : CameraRow) : (s.bufferRow r).held = s.held := by
  unfold State.bufferRow; split <;> rfl
@[simp] theorem State.bufferRow_link (s : State) (r : CameraRow) : (s.bufferRow r).link = s.link := by
  unfold State.bufferRow; split <;> rfl
@[simp] theorem State.bufferRow_unit (s : State) (r : CameraRow) : (s.bufferRow r).unit = s.unit := by
  unfold State.bufferRow; split <;> rfl
@[simp] theorem State.bufferRow_notices (s : State) (r : CameraRow) : (s.bufferRow r).notices = s.notices := by
  unfold State.bufferRow; split <;> rfl
@[simp] theorem State.bufferRow_formats (s : State) (r : CameraRow) : (s.bufferRow r).formats = s.formats := by
  unfold State.bufferRow; split <;> rfl
@[simp] theorem State.bufferRow_disp (s : State) (r : CameraRow) : (s.bufferRow r).disp = s.disp := by
  unfold State.bufferRow; split <;> rfl
@[simp] theorem State.bufferRow_mirror (s : State) (r : CameraRow) : (s.bufferRow r).mirror = s.mirror := by
  unfold State.bufferRow; split <;> rfl
@[simp] theorem State.bufferRow_steer (s : State) (r : CameraRow) : (s.bufferRow r).steer = s.steer := by
  unfold State.bufferRow; split <;> rfl
@[simp] theorem State.bufferRow_guide (s : State) (r : CameraRow) : (s.bufferRow r).guide = s.guide := by
  unfold State.bufferRow; split <;> rfl
@[simp] theorem State.bufferRow_rear (s : State) (r : CameraRow) : (s.bufferRow r).rear = s.rear := by
  unfold State.bufferRow; split <;> rfl
@[simp] theorem State.bufferRow_menus (s : State) (r : CameraRow) : (s.bufferRow r).menus = s.menus := by
  unfold State.bufferRow; split <;> rfl
@[simp] theorem State.bufferRow_rings (s : State) (r : CameraRow) : (s.bufferRow r).rings = s.rings := by
  unfold State.bufferRow; split <;> rfl
@[simp] theorem State.bufferRow_outlets (s : State) (r : CameraRow) : (s.bufferRow r).outlets = s.outlets := by
  unfold State.bufferRow; split <;> rfl
@[simp] theorem State.bufferRow_chimes (s : State) (r : CameraRow) : (s.bufferRow r).chimes = s.chimes := by
  unfold State.bufferRow; split <;> rfl
@[simp] theorem State.bufferRow_pending (s : State) (r : CameraRow) : (s.bufferRow r).pending = s.pending := by
  unfold State.bufferRow; split <;> rfl

/-! `State.linkAlive` changes link, notices only. -/

@[simp] theorem State.linkAlive_held (s : State) : (s.linkAlive).held = s.held := by
  simp only [State.linkAlive]; split <;> rfl
@[simp] theorem State.linkAlive_unit (s : State) : (s.linkAlive).unit = s.unit := by
  simp only [State.linkAlive]; split <;> rfl
@[simp] theorem State.linkAlive_tables (s : State) : (s.linkAlive).tables = s.tables := by
  simp only [State.linkAlive]; split <;> rfl
@[simp] theorem State.linkAlive_formats (s : State) : (s.linkAlive).formats = s.formats := by
  simp only [State.linkAlive]; split <;> rfl
@[simp] theorem State.linkAlive_disp (s : State) : (s.linkAlive).disp = s.disp := by
  simp only [State.linkAlive]; split <;> rfl
@[simp] theorem State.linkAlive_mirror (s : State) : (s.linkAlive).mirror = s.mirror := by
  simp only [State.linkAlive]; split <;> rfl
@[simp] theorem State.linkAlive_steer (s : State) : (s.linkAlive).steer = s.steer := by
  simp only [State.linkAlive]; split <;> rfl
@[simp] theorem State.linkAlive_camera (s : State) : (s.linkAlive).camera = s.camera := by
  simp only [State.linkAlive]; split <;> rfl
@[simp] theorem State.linkAlive_guide (s : State) : (s.linkAlive).guide = s.guide := by
  simp only [State.linkAlive]; split <;> rfl
@[simp] theorem State.linkAlive_rear (s : State) : (s.linkAlive).rear = s.rear := by
  simp only [State.linkAlive]; split <;> rfl
@[simp] theorem State.linkAlive_menus (s : State) : (s.linkAlive).menus = s.menus := by
  simp only [State.linkAlive]; split <;> rfl
@[simp] theorem State.linkAlive_rings (s : State) : (s.linkAlive).rings = s.rings := by
  simp only [State.linkAlive]; split <;> rfl
@[simp] theorem State.linkAlive_outlets (s : State) : (s.linkAlive).outlets = s.outlets := by
  simp only [State.linkAlive]; split <;> rfl
@[simp] theorem State.linkAlive_chimes (s : State) : (s.linkAlive).chimes = s.chimes := by
  simp only [State.linkAlive]; split <;> rfl
@[simp] theorem State.linkAlive_pending (s : State) : (s.linkAlive).pending = s.pending := by
  simp only [State.linkAlive]; split <;> rfl

/-! `State.completeGroup` changes tables, notices only. -/

@[simp] theorem State.completeGroup_held (s : State) (g : GroupId) : (s.completeGroup g).held = s.held := by
  simp only [State.completeGroup]; split <;> rfl
@[simp] theorem State.completeGroup_link (s : State) (g : GroupId) : (s.completeGroup g).link = s.link := by
  simp only [State.completeGroup]; split <;> rfl
@[simp] theorem State.completeGroup_unit (s : State) (g : GroupId) : (s.completeGroup g).unit = s.unit := by
  simp only [State.completeGroup]; split <;> rfl
@[simp] theorem State.completeGroup_formats (s : State) (g : GroupId) : (s.completeGroup g).formats = s.formats := by
  simp only [State.completeGroup]; split <;> rfl
@[simp] theorem State.completeGroup_disp (s : State) (g : GroupId) : (s.completeGroup g).disp = s.disp := by
  simp only [State.completeGroup]; split <;> rfl
@[simp] theorem State.completeGroup_mirror (s : State) (g : GroupId) : (s.completeGroup g).mirror = s.mirror := by
  simp only [State.completeGroup]; split <;> rfl
@[simp] theorem State.completeGroup_steer (s : State) (g : GroupId) : (s.completeGroup g).steer = s.steer := by
  simp only [State.completeGroup]; split <;> rfl
@[simp] theorem State.completeGroup_camera (s : State) (g : GroupId) : (s.completeGroup g).camera = s.camera := by
  simp only [State.completeGroup]; split <;> rfl
@[simp] theorem State.completeGroup_guide (s : State) (g : GroupId) : (s.completeGroup g).guide = s.guide := by
  simp only [State.completeGroup]; split <;> rfl
@[simp] theorem State.completeGroup_rear (s : State) (g : GroupId) : (s.completeGroup g).rear = s.rear := by
  simp only [State.completeGroup]; split <;> rfl
@[simp] theorem State.completeGroup_menus (s : State) (g : GroupId) : (s.completeGroup g).menus = s.menus := by
  simp only [State.completeGroup]; split <;> rfl
@[simp] theorem State.completeGroup_rings (s : State) (g : GroupId) : (s.completeGroup g).rings = s.rings := by
  simp only [State.completeGroup]; split <;> rfl
@[simp] theorem State.completeGroup_outlets (s : State) (g : GroupId) : (s.completeGroup g).outlets = s.outlets := by
  simp only [State.completeGroup]; split <;> rfl
@[simp] theorem State.completeGroup_chimes (s : State) (g : GroupId) : (s.completeGroup g).chimes = s.chimes := by
  simp only [State.completeGroup]; split <;> rfl
@[simp] theorem State.completeGroup_pending (s : State) (g : GroupId) : (s.completeGroup g).pending = s.pending := by
  simp only [State.completeGroup]; split <;> rfl

/-! `State.stopDisplay` changes disp, notices only. -/

@[simp] theorem State.stopDisplay_held (s : State) (d : Side) : (s.stopDisplay d).held = s.held := by
  simp only [State.stopDisplay]; split <;> rfl
@[simp] theorem State.stopDisplay_link (s : State) (d : Side) : (s.stopDisplay d).link = s.link := by
  simp only [State.stopDisplay]; split <;> rfl
@[simp] theorem State.stopDisplay_unit (s : State) (d : Side) : (s.stopDisplay d).unit = s.unit := by
  simp only [State.stopDisplay]; split <;> rfl
@[simp] theorem State.stopDisplay_tables (s : State) (d : Side) : (s.stopDisplay d).tables = s.tables := by
  simp only [State.stopDisplay]; split <;> rfl
@[simp] theorem State.stopDisplay_formats (s : State) (d : Side) : (s.stopDisplay d).formats = s.formats := by
  simp only [State.stopDisplay]; split <;> rfl
@[simp] theorem State.stopDisplay_mirror (s : State) (d : Side) : (s.stopDisplay d).mirror = s.mirror := by
  simp only [State.stopDisplay]; split <;> rfl
@[simp] theorem State.stopDisplay_steer (s : State) (d : Side) : (s.stopDisplay d).steer = s.steer := by
  simp only [State.stopDisplay]; split <;> rfl
@[simp] theorem State.stopDisplay_camera (s : State) (d : Side) : (s.stopDisplay d).camera = s.camera := by
  simp only [State.stopDisplay]; split <;> rfl
@[simp] theorem State.stopDisplay_guide (s : State) (d : Side) : (s.stopDisplay d).guide = s.guide := by
  simp only [State.stopDisplay]; split <;> rfl
@[simp] theorem State.stopDisplay_rear (s : State) (d : Side) : (s.stopDisplay d).rear = s.rear := by
  simp only [State.stopDisplay]; split <;> rfl
@[simp] theorem State.stopDisplay_menus (s : State) (d : Side) : (s.stopDisplay d).menus = s.menus := by
  simp only [State.stopDisplay]; split <;> rfl
@[simp] theorem State.stopDisplay_rings (s : State) (d : Side) : (s.stopDisplay d).rings = s.rings := by
  simp only [State.stopDisplay]; split <;> rfl
@[simp] theorem State.stopDisplay_outlets (s : State) (d : Side) : (s.stopDisplay d).outlets = s.outlets := by
  simp only [State.stopDisplay]; split <;> rfl
@[simp] theorem State.stopDisplay_chimes (s : State) (d : Side) : (s.stopDisplay d).chimes = s.chimes := by
  simp only [State.stopDisplay]; split <;> rfl
@[simp] theorem State.stopDisplay_pending (s : State) (d : Side) : (s.stopDisplay d).pending = s.pending := by
  simp only [State.stopDisplay]; split <;> rfl

/-! `State.latchComposition` changes tables, notices, disp only. -/

@[simp] theorem State.latchComposition_held (s : State) (d : Side) : (s.latchComposition d).held = s.held := by
  simp only [State.latchComposition]; split <;> rfl
@[simp] theorem State.latchComposition_link (s : State) (d : Side) : (s.latchComposition d).link = s.link := by
  simp only [State.latchComposition]; split <;> rfl
@[simp] theorem State.latchComposition_unit (s : State) (d : Side) : (s.latchComposition d).unit = s.unit := by
  simp only [State.latchComposition]; split <;> rfl
@[simp] theorem State.latchComposition_formats (s : State) (d : Side) : (s.latchComposition d).formats = s.formats := by
  simp only [State.latchComposition]; split <;> rfl
@[simp] theorem State.latchComposition_mirror (s : State) (d : Side) : (s.latchComposition d).mirror = s.mirror := by
  simp only [State.latchComposition]; split <;> rfl
@[simp] theorem State.latchComposition_steer (s : State) (d : Side) : (s.latchComposition d).steer = s.steer := by
  simp only [State.latchComposition]; split <;> rfl
@[simp] theorem State.latchComposition_camera (s : State) (d : Side) : (s.latchComposition d).camera = s.camera := by
  simp only [State.latchComposition]; split <;> rfl
@[simp] theorem State.latchComposition_guide (s : State) (d : Side) : (s.latchComposition d).guide = s.guide := by
  simp only [State.latchComposition]; split <;> rfl
@[simp] theorem State.latchComposition_rear (s : State) (d : Side) : (s.latchComposition d).rear = s.rear := by
  simp only [State.latchComposition]; split <;> rfl
@[simp] theorem State.latchComposition_menus (s : State) (d : Side) : (s.latchComposition d).menus = s.menus := by
  simp only [State.latchComposition]; split <;> rfl
@[simp] theorem State.latchComposition_rings (s : State) (d : Side) : (s.latchComposition d).rings = s.rings := by
  simp only [State.latchComposition]; split <;> rfl
@[simp] theorem State.latchComposition_outlets (s : State) (d : Side) : (s.latchComposition d).outlets = s.outlets := by
  simp only [State.latchComposition]; split <;> rfl
@[simp] theorem State.latchComposition_chimes (s : State) (d : Side) : (s.latchComposition d).chimes = s.chimes := by
  simp only [State.latchComposition]; split <;> rfl
@[simp] theorem State.latchComposition_pending (s : State) (d : Side) : (s.latchComposition d).pending = s.pending := by
  simp only [State.latchComposition]; split <;> rfl

/-! `State.latchRoute` changes disp, notices only. -/

@[simp] theorem State.latchRoute_held (s : State) (d : Side) : (s.latchRoute d).held = s.held := by
  simp only [State.latchRoute]; split <;> rfl
@[simp] theorem State.latchRoute_link (s : State) (d : Side) : (s.latchRoute d).link = s.link := by
  simp only [State.latchRoute]; split <;> rfl
@[simp] theorem State.latchRoute_unit (s : State) (d : Side) : (s.latchRoute d).unit = s.unit := by
  simp only [State.latchRoute]; split <;> rfl
@[simp] theorem State.latchRoute_tables (s : State) (d : Side) : (s.latchRoute d).tables = s.tables := by
  simp only [State.latchRoute]; split <;> rfl
@[simp] theorem State.latchRoute_formats (s : State) (d : Side) : (s.latchRoute d).formats = s.formats := by
  simp only [State.latchRoute]; split <;> rfl
@[simp] theorem State.latchRoute_mirror (s : State) (d : Side) : (s.latchRoute d).mirror = s.mirror := by
  simp only [State.latchRoute]; split <;> rfl
@[simp] theorem State.latchRoute_steer (s : State) (d : Side) : (s.latchRoute d).steer = s.steer := by
  simp only [State.latchRoute]; split <;> rfl
@[simp] theorem State.latchRoute_camera (s : State) (d : Side) : (s.latchRoute d).camera = s.camera := by
  simp only [State.latchRoute]; split <;> rfl
@[simp] theorem State.latchRoute_guide (s : State) (d : Side) : (s.latchRoute d).guide = s.guide := by
  simp only [State.latchRoute]; split <;> rfl
@[simp] theorem State.latchRoute_rear (s : State) (d : Side) : (s.latchRoute d).rear = s.rear := by
  simp only [State.latchRoute]; split <;> rfl
@[simp] theorem State.latchRoute_menus (s : State) (d : Side) : (s.latchRoute d).menus = s.menus := by
  simp only [State.latchRoute]; split <;> rfl
@[simp] theorem State.latchRoute_rings (s : State) (d : Side) : (s.latchRoute d).rings = s.rings := by
  simp only [State.latchRoute]; split <;> rfl
@[simp] theorem State.latchRoute_outlets (s : State) (d : Side) : (s.latchRoute d).outlets = s.outlets := by
  simp only [State.latchRoute]; split <;> rfl
@[simp] theorem State.latchRoute_chimes (s : State) (d : Side) : (s.latchRoute d).chimes = s.chimes := by
  simp only [State.latchRoute]; split <;> rfl
@[simp] theorem State.latchRoute_pending (s : State) (d : Side) : (s.latchRoute d).pending = s.pending := by
  simp only [State.latchRoute]; split <;> rfl

/-! `State.giveFrame` changes rings, tables, notices only. -/

@[simp] theorem State.giveFrame_held (s : State) (p : Prog) : (s.giveFrame p).held = s.held := by
  simp only [State.giveFrame]; split
  · split <;> rfl
  · rfl
@[simp] theorem State.giveFrame_link (s : State) (p : Prog) : (s.giveFrame p).link = s.link := by
  simp only [State.giveFrame]; split
  · split <;> rfl
  · rfl
@[simp] theorem State.giveFrame_unit (s : State) (p : Prog) : (s.giveFrame p).unit = s.unit := by
  simp only [State.giveFrame]; split
  · split <;> rfl
  · rfl
@[simp] theorem State.giveFrame_formats (s : State) (p : Prog) : (s.giveFrame p).formats = s.formats := by
  simp only [State.giveFrame]; split
  · split <;> rfl
  · rfl
@[simp] theorem State.giveFrame_disp (s : State) (p : Prog) : (s.giveFrame p).disp = s.disp := by
  simp only [State.giveFrame]; split
  · split <;> rfl
  · rfl
@[simp] theorem State.giveFrame_mirror (s : State) (p : Prog) : (s.giveFrame p).mirror = s.mirror := by
  simp only [State.giveFrame]; split
  · split <;> rfl
  · rfl
@[simp] theorem State.giveFrame_steer (s : State) (p : Prog) : (s.giveFrame p).steer = s.steer := by
  simp only [State.giveFrame]; split
  · split <;> rfl
  · rfl
@[simp] theorem State.giveFrame_camera (s : State) (p : Prog) : (s.giveFrame p).camera = s.camera := by
  simp only [State.giveFrame]; split
  · split <;> rfl
  · rfl
@[simp] theorem State.giveFrame_guide (s : State) (p : Prog) : (s.giveFrame p).guide = s.guide := by
  simp only [State.giveFrame]; split
  · split <;> rfl
  · rfl
@[simp] theorem State.giveFrame_rear (s : State) (p : Prog) : (s.giveFrame p).rear = s.rear := by
  simp only [State.giveFrame]; split
  · split <;> rfl
  · rfl
@[simp] theorem State.giveFrame_menus (s : State) (p : Prog) : (s.giveFrame p).menus = s.menus := by
  simp only [State.giveFrame]; split
  · split <;> rfl
  · rfl
@[simp] theorem State.giveFrame_outlets (s : State) (p : Prog) : (s.giveFrame p).outlets = s.outlets := by
  simp only [State.giveFrame]; split
  · split <;> rfl
  · rfl
@[simp] theorem State.giveFrame_chimes (s : State) (p : Prog) : (s.giveFrame p).chimes = s.chimes := by
  simp only [State.giveFrame]; split
  · split <;> rfl
  · rfl
@[simp] theorem State.giveFrame_pending (s : State) (p : Prog) : (s.giveFrame p).pending = s.pending := by
  simp only [State.giveFrame]; split
  · split <;> rfl
  · rfl
/-! What the plain updates leave in the field they change. -/

@[simp] theorem State.bump_stats (s : State) (i n : Nat) : (s.bump i n).tables.stats = countUp s.tables.stats i n := rfl
@[simp] theorem State.bump_group (s : State) (i n : Nat) (g : GroupId) :
    (s.bump i n).tables.group g = s.tables.group g := by cases g <;> rfl
@[simp] theorem State.offerNotice_notices (s : State) (k : NoticeKind) (d v : Word) :
    (s.offerNotice k d v).notices = s.notices.offer (noticeEnabled s.tables.control k) k d v := rfl
@[simp] theorem State.setDisp_disp (s : State) (d : Side) (x : Display) : (s.setDisp d x).disp = s.disp.set d x := rfl
@[simp] theorem State.setMenu_menus (s : State) (d : Side) (m : Menu) : (s.setMenu d m).menus = s.menus.set d m := rfl
@[simp] theorem State.setGroup_tables (s : State) (g : GroupId) (b : Group) :
    (s.setGroup g b).tables = s.tables.setGroup g b := rfl
@[simp] theorem State.requestChime_chimes (s : State) (n : Nat) :
    (s.requestChime n).chimes = s.chimes.request s.tables.chimes n := rfl
@[simp] theorem State.setAdmission_chimes (s : State) (l : Nat) :
    (s.setAdmission l).chimes = s.chimes.moveLevel s.tables.chimes l := rfl
@[simp] theorem State.settleEnds_chimes (s : State) : s.settleEnds.chimes = s.chimes.settleEnds s.tables.chimes := rfl
@[simp] theorem State.setRing_rings (s : State) (p : Prog) (r : Ring) : (s.setRing p r).rings = s.rings.set p r := rfl
@[simp] theorem State.setPointer_unit (s : State) (t : TableId) (i : Nat) :
    (s.setPointer t i).unit = { s.unit with pointer := ⟨t, i⟩ } := rfl
@[simp] theorem State.dequeue_unit (s : State) : s.dequeue.unit = { s.unit with queue := s.unit.queue.tail } := rfl

/-! Reading back from the small collections. -/

@[simp] theorem Pair.get_set_same {α : Type} (p : Pair α) (i : Side) (x : α) : (p.set i x).get i = x := by
  cases i <;> rfl
theorem Pair.get_set_other {α : Type} (p : Pair α) {i j : Side} (x : α) (h : j ≠ i) : (p.set i x).get j = p.get j := by
  cases i <;> cases j <;> first | rfl | exact absurd rfl h
@[simp] theorem Quad.get_set_same {α : Type} (q : Quad α) (i : Prog) (x : α) : (q.set i x).get i = x := by
  fin_cases i <;> rfl
theorem Quad.get_set_other {α : Type} (q : Quad α) {i j : Prog} (x : α) (h : j ≠ i) : (q.set i x).get j = q.get j := by
  fin_cases i <;> fin_cases j <;> first | rfl | exact absurd rfl h
@[simp] theorem PerVoice.get_set_same {α : Type} (q : PerVoice α) (i : VoiceId) (x : α) : (q.set i x).get i = x := by
  cases i <;> rfl
theorem PerVoice.get_set_other {α : Type} (q : PerVoice α) {i j : VoiceId} (x : α) (h : j ≠ i) :
    (q.set i x).get j = q.get j := by
  cases i <;> cases j <;> first | rfl | exact absurd rfl h
@[simp] theorem PerKey.get_set_same {α : Type} (q : PerKey α) (i : Key) (x : α) : (q.set i x).get i = x := by
  cases i <;> rfl
theorem PerKey.get_set_other {α : Type} (q : PerKey α) {i j : Key} (x : α) (h : j ≠ i) :
    (q.set i x).get j = q.get j := by
  cases i <;> cases j <;> first | rfl | exact absurd rfl h
@[simp] theorem TableStore.group_setGroup_same (t : TableStore) (g : GroupId) (b : Group) :
    (t.setGroup g b).group g = b := by
  cases g <;> rfl
theorem TableStore.group_setGroup_other (t : TableStore) {g h : GroupId} (b : Group) (hne : h ≠ g) :
    (t.setGroup g b).group h = t.group h := by
  cases g <;> cases h <;> first | rfl | exact absurd rfl hne

/-! Taking an event. -/

theorem whenLive_live {s : State} (h : s.held = none) (f : State → State) : whenLive s f = .next (f s) := by
  simp [whenLive, h]
theorem whenLive_held {s : State} (h : s.held ≠ none) (f : State → State) : whenLive s f = .next s := by
  simp [whenLive, h]

end Sys2Proof.Machine
end

