-- ==== Sys2Proof/Laws/Chimes.lean ====
section
/-! SUPPORT. What the operations of the Chime Engine do: places in the pending queue, one sample of a voice, and its end. -/

namespace Sys2Proof.Machine

/-! The pending queue (R158) -/

theorem insertChime_length (chimes : Table) (n : Nat) (q : List Nat) : (insertChime chimes n q).length = q.length + 1 := by
  induction q with
  | nil => rfl
  | cons m r ih => simp only [insertChime]; split <;> simp [ih]

/-- An inserted chime stands somewhere in the queue, whose other chimes keep their order. -/
theorem insertChime_split (chimes : Table) (n : Nat) (q : List Nat) :
    ∃ before after, q = before ++ after ∧ insertChime chimes n q = before ++ n :: after ∧
      ∀ m ∈ before, prioOf chimes n ≤ prioOf chimes m := by
  induction q with
  | nil => exact ⟨[], [], rfl, rfl, by simp⟩
  | cons m r ih =>
    by_cases h : prioOf chimes n > prioOf chimes m
    · exact ⟨[], m :: r, rfl, by simp [insertChime, h], by simp⟩
    · obtain ⟨b, a, e1, e2, e3⟩ := ih
      refine ⟨m :: b, a, by simp [e1], by simp [insertChime, h, e2], ?_⟩
      intro k hk
      rcases List.mem_cons.mp hk with rfl | hk
      · omega
      · exact e3 k hk

/-- An ordered queue is two ordered parts, the first nowhere below the second. -/
theorem queueOrdered_append (chimes : Table) (a b : List Nat) : queueOrdered chimes (a ++ b) = true ↔
    queueOrdered chimes a = true ∧ queueOrdered chimes b = true ∧
      ∀ x ∈ a, ∀ y ∈ b, prioOf chimes y ≤ prioOf chimes x := by
  induction a with
  | nil => simp [queueOrdered]
  | cons x a ih =>
    simp only [List.cons_append, queueOrdered, Bool.and_eq_true, List.all_append, ih]
    simp
    tauto

theorem queueOrdered_tail {chimes : Table} {n : Nat} {q : List Nat} (h : queueOrdered chimes (n :: q) = true) :
    queueOrdered chimes q = true := by
  simp only [queueOrdered, Bool.and_eq_true] at h
  exact h.2

/-! A voice (R154, R155) -/

/-- One sample moves a voice's place and may bring its natural end; nothing else of it changes. -/
theorem Voice.advance_keeps (x : Voice) (d : ChimeDesc) :
    (x.advance d).chime = x.chime ∧ (x.advance d).releasing = x.releasing ∧ (x.advance d).level = x.level ∧
      (x.advance d).order = x.order ∧ ((x.advance d).due = x.due ∨ (x.advance d).due = some .natural) := by
  simp only [Voice.advance]
  repeat' split
  all_goals simp

theorem Voice.tick_keeps (x : Voice) (chimes : Table) (fall : Nat) :
    (x.tick chimes fall).chime = x.chime ∧ (x.tick chimes fall).releasing = x.releasing ∧
      (x.tick chimes fall).order = x.order ∧ (x.tick chimes fall).level ≤ x.level := by
  obtain ⟨h1, h2, h3, h4, -⟩ := x.advance_keeps (chimeDesc chimes x.chime)
  simp only [Voice.tick, Voice.fade]
  repeat' split
  all_goals simp_all

theorem Voice.fade_sounding {x : Voice} (h : x.releasing = false) (n : Nat) : x.fade n = x := by simp [Voice.fade, h]

/-! Voices of the engine -/

@[simp] theorem PerVoice.get_map {α β : Type} (f : α → β) (q : PerVoice α) (v : VoiceId) :
    (q.map f).get v = f (q.get v) := by
  cases v <;> rfl

/-- A started chime is on its voice, SOUNDING, as the latest-started one. -/
theorem ChimeEngine.startOn_voice (c : ChimeEngine) (chimes : Table) (v : VoiceId) (n : Nat) :
    ∃ x, (c.startOn chimes v n).voices.get v = some x ∧ x.chime = n ∧ x.releasing = false ∧ x.order = c.starts ∧
      x.due = none := by
  exact ⟨_, PerVoice.get_set_same _ _ _, rfl, rfl, rfl, rfl⟩

/-- Nothing is due, so nothing ends. -/
theorem ChimeEngine.endVoice_idle {c : ChimeEngine} {v : VoiceId} (h : c.dueAt v = none) (chimes : Table) :
    c.endVoice chimes v = c := by
  simp [ChimeEngine.endVoice, h]

theorem ChimeEngine.settleEnds_idle {c : ChimeEngine} (h : c.firstDue = none) (chimes : Table) :
    c.settleEnds chimes = c := by
  have h0 : c.dueAt .v0 = none := by
    cases h0 : c.dueAt .v0 <;> simp_all [ChimeEngine.firstDue]
  have h1 : c.dueAt .v1 = none := by
    cases h1 : c.dueAt .v1 <;> simp_all [ChimeEngine.firstDue]
  have h2 : c.dueAt .v2 = none := by
    cases h2 : c.dueAt .v2 <;> simp_all [ChimeEngine.firstDue]
  simp [ChimeEngine.settleEnds, ChimeEngine.endVoice_idle, h0, h1, h2]

end Sys2Proof.Machine
end

