-- ==== Sys2Proof/Laws/Config.lean ====
section
/-! SUPPORT. The constants as numerals, so that arithmetic on them needs no unfolding. -/

namespace Sys2Proof.Config

@[simp] theorem counterMax_eq : counterMax = 65535 := rfl
@[simp] theorem strapOff_eq : strapOff = 15 := rfl
@[simp] theorem requestDepth_eq : requestDepth = 8 := rfl
@[simp] theorem transferMax_eq : transferMax = 32 := rfl
@[simp] theorem noticeDepth_eq : noticeDepth = 16 := rfl
@[simp] theorem selectDepth_eq : selectDepth = 2 := rfl
@[simp] theorem storeDepth_eq : storeDepth = 16 := rfl
@[simp] theorem recoverSlots_eq : recoverSlots = 8 := rfl
@[simp] theorem stallMisses_eq : stallMisses = 8 := rfl
@[simp] theorem bufferDepth_eq : bufferDepth = 4 := rfl
@[simp] theorem upstreamDepth_eq : upstreamDepth = 4 := rfl
@[simp] theorem debounceSamples_eq : debounceSamples = 20 := rfl
@[simp] theorem stackDepth_eq : stackDepth = 6 := rfl
@[simp] theorem pageCount_eq : pageCount = 32 := rfl
@[simp] theorem tileCount_eq : tileCount = 512 := rfl
@[simp] theorem repeatFirst_eq : repeatFirst = 500 := rfl
@[simp] theorem repeatNext_eq : repeatNext = 150 := rfl
@[simp] theorem volumeTop_eq : volumeTop = 20 := rfl
@[simp] theorem ringDepth_eq : ringDepth = 512 := rfl
@[simp] theorem primeLevel_eq : primeLevel = 256 := rfl
@[simp] theorem unity_eq : unity = 32768 := rfl
@[simp] theorem sampleRate_eq : sampleRate = 48000 := rfl
@[simp] theorem chimeCount_eq : chimeCount = 32 := rfl
@[simp] theorem suspendDepth_eq : suspendDepth = 3 := rfl
@[simp] theorem pendingDepth_eq : pendingDepth = 8 := rfl
@[simp] theorem noChime_eq : noChime = 255 := rfl
@[simp] theorem noProgramme_eq : noProgramme = 15 := rfl
@[simp] theorem freeRunDefault_eq : freeRunDefault = 33367 := rfl

end Sys2Proof.Config
end

