-- ==== Sys2Proof/Laws/Tables.lean ====
section
/-! SUPPORT. The Table Store as memory: reading after writing, and that every write keeps the canonical form. -/

namespace Sys2Proof.Machine

open Sys2Proof

@[simp] theorem Table.read_nil (i : Nat) : Table.read [] i = 0#16 := rfl

theorem Table.read_cons (c : Nat × Word) (t : Table) (i : Nat) :
    Table.read (c :: t) i = if c.1 = i then c.2 else Table.read t i := rfl

/-- Every listed index lies above `a`. -/
def Table.above (t : Table) (a : Nat) : Bool := t.all fun c => decide (a < c.1)

theorem Table.wf_cons (c : Nat × Word) (t : Table) :
    Table.wf (c :: t) = true ↔ c.2 ≠ 0#16 ∧ Table.above t c.1 = true ∧ Table.wf t = true := by
  simp [Table.wf, Table.above, and_assoc]

theorem Table.above_cons (c : Nat × Word) (t : Table) (a : Nat) :
    Table.above (c :: t) a = true ↔ a < c.1 ∧ Table.above t a = true := by
  simp [Table.above]

theorem Table.above_mono {t : Table} {a b : Nat} (h : Table.above t b = true) (hab : a ≤ b) :
    Table.above t a = true := by
  simp only [Table.above, List.all_eq_true, decide_eq_true_eq] at h ⊢
  intro c hc
  exact lt_of_le_of_lt hab (h c hc)

/-- Below every listed index a table reads 0. -/
theorem Table.read_of_above {t : Table} {a i : Nat} (h : Table.above t a = true) (hi : i ≤ a) : Table.read t i = 0#16 := by
  induction t with
  | nil => rfl
  | cons c t ih =>
    rw [Table.above_cons] at h
    rw [Table.read_cons, if_neg (by omega)]
    exact ih h.2

/-! One write -/

theorem Table.write_cons (a : Nat) (v : Word) (t : Table) (i : Nat) (w : Word) :
    Table.write ((a, v) :: t) i w =
      if i < a then (if w = 0#16 then (a, v) :: t else (i, w) :: (a, v) :: t)
      else if i = a then (if w = 0#16 then t else (i, w) :: t)
      else (a, v) :: Table.write t i w := rfl

theorem Table.write_nil (i : Nat) (w : Word) : Table.write [] i w = if w = 0#16 then [] else [(i, w)] := rfl

theorem Table.read_write_other (t : Table) {i j : Nat} (w : Word) (h : j ≠ i) :
    Table.read (Table.write t i w) j = Table.read t j := by
  induction t with
  | nil => by_cases hw : w = 0#16 <;> simp [Table.write_nil, Table.read_cons, hw, Ne.symm h]
  | cons c t ih =>
    obtain ⟨a, v⟩ := c
    rw [Table.write_cons]
    by_cases h1 : i < a
    · by_cases hw : w = 0#16 <;> simp [Table.read_cons, h1, hw, Ne.symm h]
    · by_cases h2 : i = a
      · subst h2
        by_cases hw : w = 0#16 <;> simp [Table.read_cons, hw, Ne.symm h]
      · simp [Table.read_cons, h1, h2, ih]

theorem Table.read_write_same {t : Table} (h : Table.wf t = true) (i : Nat) (w : Word) :
    Table.read (Table.write t i w) i = w := by
  induction t with
  | nil => by_cases hw : w = 0#16 <;> simp [Table.write_nil, Table.read_cons, hw]
  | cons c t ih =>
    obtain ⟨a, v⟩ := c
    rw [Table.wf_cons] at h
    rw [Table.write_cons]
    by_cases h1 : i < a
    · by_cases hw : w = 0#16
      · simp only [h1, hw, if_true, Table.read_cons]
        rw [if_neg (by omega)]
        exact Table.read_of_above h.2.1 (by simpa using h1.le)
      · simp [Table.read_cons, h1, hw]
    · by_cases h2 : i = a
      · subst h2
        by_cases hw : w = 0#16
        · simpa [hw] using Table.read_of_above h.2.1 (le_refl _)
        · simp [Table.read_cons, hw]
      · simp only [h1, h2, if_false, Table.read_cons]
        rw [if_neg (by omega)]
        exact ih h.2.2

theorem Table.above_write {t : Table} {a i : Nat} (w : Word) (h : Table.above t a = true) (hi : a < i) :
    Table.above (Table.write t i w) a = true := by
  induction t with
  | nil => by_cases hw : w = 0#16 <;> simp [Table.write_nil, hw, Table.above, hi]
  | cons c t ih =>
    obtain ⟨b, v⟩ := c
    rw [Table.above_cons] at h
    rw [Table.write_cons]
    by_cases h1 : i < b
    · by_cases hw : w = 0#16 <;> simp [Table.above_cons, h1, hw, h.1, h.2, hi]
    · by_cases h2 : i = b
      · by_cases hw : w = 0#16 <;> simp [Table.above_cons, h2, hw, h.2, h.1]
      · simpa [Table.above_cons, h1, h2] using ⟨h.1, ih h.2⟩

theorem Table.wf_write {t : Table} (h : Table.wf t = true) (i : Nat) (w : Word) :
    Table.wf (Table.write t i w) = true := by
  induction t with
  | nil => by_cases hw : w = 0#16 <;> simp [Table.write_nil, hw, Table.wf]
  | cons c t ih =>
    obtain ⟨a, v⟩ := c
    have hc := h
    rw [Table.wf_cons] at h
    rw [Table.write_cons]
    by_cases h1 : i < a
    · by_cases hw : w = 0#16
      · simpa [h1, hw] using hc
      · simp only [h1, hw, if_true, if_false]
        exact (Table.wf_cons _ _).2 ⟨hw, (Table.above_cons _ _ _).2 ⟨h1, Table.above_mono h.2.1 (by simpa using h1.le)⟩, hc⟩
    · by_cases h2 : i = a
      · subst h2
        by_cases hw : w = 0#16
        · simpa [hw] using h.2.2
        · simp only [lt_irrefl, if_false, if_true, hw]
          exact (Table.wf_cons _ _).2 ⟨hw, h.2.1, h.2.2⟩
      · simp only [h1, h2, if_false]
        exact (Table.wf_cons _ _).2 ⟨h.1, Table.above_write w h.2.1 (by simp; omega), ih h.2.2⟩

theorem Table.below_write {t : Table} {n i : Nat} (w : Word) (h : Table.below t n = true) (hi : i < n) :
    Table.below (Table.write t i w) n = true := by
  induction t with
  | nil => by_cases hw : w = 0#16 <;> simp [Table.write_nil, hw, Table.below, hi]
  | cons c t ih =>
    obtain ⟨a, v⟩ := c
    simp only [Table.below, List.all_cons, Bool.and_eq_true, decide_eq_true_eq] at h
    have ih' := ih (by simpa [Table.below] using h.2)
    rw [Table.write_cons]
    simp only [Table.below] at ih' ⊢
    by_cases h1 : i < a
    · by_cases hw : w = 0#16
      · simpa [h1, hw] using h
      · simp only [h1, hw, if_true, if_false, List.all_cons, Bool.and_eq_true, decide_eq_true_eq]
        exact ⟨hi, h⟩
    · by_cases h2 : i = a
      · subst h2
        by_cases hw : w = 0#16
        · simpa [hw] using h.2
        · simpa [hw] using ⟨hi, by simpa using h.2⟩
      · simpa [h1, h2] using ⟨h.1, by simpa using ih'⟩

theorem Table.fits_write {t : Table} {n i : Nat} (w : Word) (h : t.fits n = true) (hi : i < n) :
    (t.write i w).fits n = true := by
  simp only [Table.fits, Bool.and_eq_true] at h ⊢
  exact ⟨Table.wf_write h.1 i w, Table.below_write w h.2 hi⟩

/-! A run of writes -/

@[simp] theorem Table.writeFrom_nil (t : Table) (i : Nat) : t.writeFrom i [] = t := rfl

theorem Table.writeFrom_cons (t : Table) (i : Nat) (w : Word) (ws : List Word) :
    t.writeFrom i (w :: ws) = (t.write i w).writeFrom (i + 1) ws := rfl

theorem Table.wf_writeFrom {t : Table} (h : t.wf = true) (i : Nat) (ws : List Word) : (t.writeFrom i ws).wf = true := by
  induction ws generalizing t i with
  | nil => exact h
  | cons w ws ih => exact ih (Table.wf_write h i w) (i + 1)

theorem Table.fits_writeFrom {t : Table} {n : Nat} (h : t.fits n = true) (i : Nat) (ws : List Word)
    (hi : ws ≠ [] → i + ws.length ≤ n) : (t.writeFrom i ws).fits n = true := by
  induction ws generalizing t i with
  | nil => exact h
  | cons w ws ih =>
    have hlen := hi (by simp)
    simp only [List.length_cons] at hlen
    exact ih (Table.fits_write w h (by omega)) (i + 1) (fun _ => by omega)

theorem Table.read_writeFrom_outside (t : Table) {i j : Nat} (ws : List Word) (h : j < i ∨ i + ws.length ≤ j) :
    (t.writeFrom i ws).read j = t.read j := by
  induction ws generalizing t i with
  | nil => rfl
  | cons w ws ih =>
    simp only [List.length_cons] at h
    rw [Table.writeFrom_cons, ih _ (by omega), Table.read_write_other _ _ (by omega)]

theorem Table.read_writeFrom_inside {t : Table} (h : t.wf = true) (i : Nat) (ws : List Word) (k : Nat)
    (hk : k < ws.length) : (t.writeFrom i ws).read (i + k) = ws[k] := by
  induction ws generalizing t i k with
  | nil => simp at hk
  | cons w ws ih =>
    rw [Table.writeFrom_cons]
    cases k with
    | zero =>
      rw [Table.read_writeFrom_outside _ _ (by omega)]
      simpa using Table.read_write_same h i w
    | succ k =>
      have := ih (Table.wf_write h i w) (i + 1) k (by simpa using hk)
      simpa [Nat.add_assoc, Nat.add_comm 1 k] using this

/-! Counters -/

theorem countUp_wf {t : Table} (h : t.wf = true) (i n : Nat) : (countUp t i n).wf = true := by
  unfold countUp
  split
  · exact h
  · exact Table.wf_write h _ _

theorem countUp_fits {t : Table} {m i : Nat} (h : t.fits m = true) (hi : i < m) (n : Nat) :
    (countUp t i n).fits m = true := by
  unfold countUp
  split
  · exact h
  · exact Table.fits_write _ h hi

theorem countUp_other (t : Table) {i j : Nat} (n : Nat) (h : j ≠ i) : (countUp t i n).nat j = t.nat j := by
  unfold countUp
  split
  · rfl
  · simp [Table.nat, Table.read_write_other _ _ h]

/-- A counter rises by the events counted and stops at 65,535 (R23). -/
theorem countUp_same {t : Table} (h : t.wf = true) (i n : Nat) :
    (countUp t i n).nat i = min (t.nat i + n) Config.counterMax := by
  have hlt : t.nat i < 65536 := (t.read i).isLt
  unfold countUp
  split
  · subst_vars
    simp only [Config.counterMax]
    omega
  · rw [Table.nat, Table.read_write_same h, BitVec.toNat_ofNat, Nat.mod_eq_of_lt]
    simp only [Config.counterMax]
    omega

/-! The reset tables are in canonical form. -/

theorem resetTables_fits : resetTables.fits = true := by decide +kernel

theorem State.reset_tables_fits : State.reset.tables.fits = true := resetTables_fits

end Sys2Proof.Machine
end

