-- ==== Sys2Proof/Laws/Ops.lean ====
section
/-! SUPPORT. What the shared operations do, said once for each: events while no reset holds the part, replies, upstream
pictures, notices, the view, latched copies, first failing tests, ramps and camera rows. -/

namespace Sys2Proof.Machine

/-- An event always has a next state. -/
theorem whenLive_next (s : State) (f : State → State) : ∃ t, whenLive s f = .next t := ⟨_, rfl⟩

theorem State.bump_counter_same {s : State} (h : s.tables.stats.wf = true) (i n : Nat) :
    (s.bump i n).counter i = min (s.counter i + n) 65535 := by
  by_cases hn : n = 0
  · have := Nat.le_of_lt_succ (s.tables.stats.read i).isLt
    subst hn
    simpa [State.bump, State.counter, countUp, Table.nat] using this
  · have := countUp_same h i n
    simp only [State.bump, State.counter] at *
    rw [this]
    rfl

theorem State.bump_counter_other (s : State) {i j : Nat} (n : Nat) (h : j ≠ i) : (s.bump i n).counter j = s.counter j :=
  countUp_other s.tables.stats n h

/-! Replies (R14, R17) -/

theorem State.finish_unwanted {s : State} {r : QueuedRequest} (h : r.wanted = false) (code : ReplyCode) (data : List Word) :
    s.finish r code data none = s := by
  simp [State.finish, h]

theorem State.finish_full {s : State} {r : QueuedRequest} (h : r.wanted = true) (hs : s.link.slot ≠ none) (code : ReplyCode)
    (data : List Word) (k : Option RestartKind) :
    s.finish r code data k = { s with unit := { s.unit with status := .holding ⟨r.tag, code, data, k⟩ } } := by
  cases hl : s.link.slot <;> simp_all [State.finish]

theorem State.finish_empty {s : State} {r : QueuedRequest} (h : r.wanted = true) (hs : s.link.slot = none) (code : ReplyCode)
    (data : List Word) (k : Option RestartKind) : s.finish r code data k = s.handOff ⟨r.tag, code, data, k⟩ := by
  simp [State.finish, h, hs]

/-- A reply only reaches the reply slot, UP_DISCARDS and the status of the unit. -/
theorem State.finish_frame (s : State) (r : QueuedRequest) (code : ReplyCode) (data : List Word) (k : Option RestartKind) :
    s.finish r code data k = { s with
      link := { s.link with slot := (s.finish r code data k).link.slot }
      unit := { s.unit with status := (s.finish r code data k).unit.status }
      tables := { s.tables with stats := (s.finish r code data k).tables.stats } } := by
  unfold State.finish State.handOff RequestUnit.handedOver RequestUnit.report
  repeat' split
  all_goals rfl

/-! Upstream pictures (R12, R104) -/

theorem State.offerPicture_cases (s : State) (p : UpPicture) :
    (s.link.up = false ∧ s.offerPicture p = s.bump cntUpDiscards 1) ∨
    (s.link.up = true ∧ s.rear.queue.length < 4 ∧
      s.offerPicture p = { s with rear := { s.rear with queue := s.rear.queue ++ [p] } }) ∨
    (s.link.up = true ∧ 4 ≤ s.rear.queue.length ∧ s.offerPicture p = s.bump cntPictureDrops 1) := by
  cases h : s.link.up
  · left; simp [State.offerPicture, h]
  · right
    by_cases hq : s.rear.queue.length < 4
    · left; simp [State.offerPicture, h, hq, Config.upstreamDepth]
    · right; exact ⟨rfl, by omega, by simp [State.offerPicture, h, hq, Config.upstreamDepth]⟩

/-! Notices (R40) -/

theorem NoticeQueue.offer_disabled (q : NoticeQueue) (k : NoticeKind) (d v : Word) : q.offer false k d v = q := rfl

theorem NoticeQueue.offer_new {q : NoticeQueue} {k : NoticeKind} {d : Word} (v : Word)
    (h : ∀ n ∈ q.records, n.from k d = false) :
    q.offer true k d v = { q with records := q.records ++ [⟨k, d, v, q.time⟩] } := by
  have : q.records.any (fun n => n.from k d) = false := by simpa using h
  simp [NoticeQueue.offer, this]

theorem NoticeQueue.offer_merge {q : NoticeQueue} {k : NoticeKind} {d : Word} (v : Word)
    (h : ∃ n ∈ q.records, n.from k d = true) :
    q.offer true k d v = { q with records := q.records.map fun n =>
      if (n.from k d) = true then { n with value := v, time := q.time } else n } := by
  have : q.records.any (fun n => n.from k d) = true := by simpa using h
  simp [NoticeQueue.offer, this]

@[simp] theorem NoticeQueue.offer_time (q : NoticeQueue) (e : Bool) (k : NoticeKind) (d v : Word) :
    (q.offer e k d v).time = q.time := by
  unfold NoticeQueue.offer
  repeat' split
  all_goals rfl

/-! The actual view (R102, R103) -/

theorem State.followView_same {s : State} (h : s.rear.viewOf = s.rear.actual) : s.followView = s := by
  simp [State.followView, h]

theorem State.refreshView_same {s : State} (h : s.rear.viewOf = s.rear.actual) : s.refreshView = s := by
  simp [State.refreshView, h]

/-! Latched copies, tests and ramps -/

/-- A latched copy reads as its bank inside its range. -/
theorem Table.read_slice (t : Table) {lo hi i : Nat} (h : lo ≤ i) (h2 : i < hi) : (t.slice lo hi).read i = t.read i := by
  induction t with
  | nil => rfl
  | cons c t ih =>
    obtain ⟨a, w⟩ := c
    simp only [Table.slice, List.filter] at ih ⊢
    by_cases ha : a = i
    · subst ha; simp [h, h2, Table.read]
    · by_cases hc : lo ≤ a ∧ a < hi
      · simp only [hc, and_self, decide_true, Table.read, ha, if_false]; exact ih
      · simp only [hc, decide_false, Table.read, ha, if_false]; exact ih

theorem firstFailing_cons (ok : Bool) (w : Nat) (l : List (Bool × Nat)) :
    firstFailing ((ok, w) :: l) = if ok then firstFailing l else some w := rfl

theorem approach_up {x target : Nat} (h : x < target) (up down : Nat) :
    approach x target up down = min target (x + up) := by simp [approach, h]

theorem approach_down {x target : Nat} (h : target ≤ x) (up down : Nat) :
    approach x target up down = max target (x - down) := by simp [approach, Nat.not_lt.mpr h]

/-- A ramp never leaves the range that holds it and its target. -/
theorem approach_le {x target top : Nat} (hx : x ≤ top) (ht : target ≤ top) (up down : Nat) :
    approach x target up down ≤ top := by
  unfold approach
  split <;> omega

/-- A ring never grows past its capacity (R140, R142). -/
theorem Ring.join_length (r : Ring) (frames : List Stereo) (h : r.frames.length ≤ 512) :
    (r.join frames).frames.length = min 512 (r.frames.length + frames.length) := by
  simp only [Ring.join, List.length_append, List.length_take, Config.ringDepth]
  omega

/-- Column x of a camera row is the pixel at pixel count active start pixel + x, or fill where the line ended before (R96). -/
theorem cameraColumns_getD (d : Table) (fill black : Rgb) (line : List Rgb) {x : Nat} (h : x < activeWidth d) :
    (cameraColumns d fill line).getD x black = line.getD (startPixel d + x) fill := by
  simp only [cameraColumns, padRow, List.getD_eq_getElem?_getD, List.getElem?_append, List.length_take, List.length_drop,
    List.getElem?_take, List.getElem?_drop, List.getElem?_replicate]
  split
  · rw [List.getElem?_eq_getElem (show startPixel d + x < line.length by omega)]; simp
  · rw [if_pos (by omega), List.getElem?_eq_none (by omega)]; simp

theorem cameraColumns_length (d : Table) (fill : Rgb) (line : List Rgb) :
    (cameraColumns d fill line).length = activeWidth d := by
  simp only [cameraColumns, padRow, List.length_append, List.length_take, List.length_replicate]
  omega

end Sys2Proof.Machine
end

