-- ==== Sys2Proof/Laws/Pins.lean ====
section
/-! SUPPORT. What a run of samples makes of a debounced pin: 19 samples of the other level only count, the twentieth
changes the level (R99, R122). -/

namespace Sys2Proof.Machine

theorem Debouncer.sample_same (x : Bool) (n : Nat) : Debouncer.sample ⟨x, n⟩ x = ⟨x, 0⟩ := by
  unfold Debouncer.sample
  exact if_pos rfl

theorem Debouncer.sample_counts (x : Bool) {n : Nat} (h : n + 1 < 20) : Debouncer.sample ⟨!x, n⟩ x = ⟨!x, n + 1⟩ := by
  have hx : ¬ x = !x := by cases x <;> decide
  have hn : ¬ Config.debounceSamples ≤ n + 1 := Nat.not_le.mpr h
  simp only [Debouncer.sample, if_neg hx, ge_iff_le, if_neg hn]

theorem Debouncer.sample_passes (x : Bool) {n : Nat} (h : 20 ≤ n + 1) : Debouncer.sample ⟨!x, n⟩ x = ⟨x, 0⟩ := by
  have hx : ¬ x = !x := by cases x <;> decide
  have hn : Config.debounceSamples ≤ n + 1 := h
  simp only [Debouncer.sample, if_neg hx, ge_iff_le, if_pos hn]

theorem State.reverseSample_counts (s : State) (x : Bool) {n : Nat} (h : s.rear.reversePin = ⟨!x, n⟩) (hn : n + 1 < 20) :
    s.reverseSample x = { s with rear := { s.rear with reversePin := ⟨!x, n + 1⟩ } } := by
  unfold State.reverseSample
  simp only [h, Debouncer.sample_counts x hn, if_true]

theorem State.reverseSample_passes (s : State) (x : Bool) {n : Nat} (h : s.rear.reversePin = ⟨!x, n⟩) (hn : 20 ≤ n + 1) :
    s.reverseSample x = State.evalReverse { s with rear := { s.rear with reversePin := ⟨x, 0⟩ } } := by
  unfold State.reverseSample
  simp only [h, Debouncer.sample_passes x hn]
  exact if_neg (by cases x <;> decide)

theorem State.calSample_counts (s : State) (x : Bool) {n : Nat} (h : s.rear.calPin = ⟨!x, n⟩) (hn : n + 1 < 20) :
    s.calSample x = { s with rear := { s.rear with calPin := ⟨!x, n + 1⟩ } } := by
  unfold State.calSample
  simp only [h, Debouncer.sample_counts x hn, if_true]

theorem State.calSample_passes (s : State) (x : Bool) {n : Nat} (h : s.rear.calPin = ⟨!x, n⟩) (hn : 20 ≤ n + 1) :
    s.calSample x = State.reactHold { s with rear := { s.rear with calPin := ⟨x, 0⟩ } } := by
  unfold State.calSample
  simp only [h, Debouncer.sample_passes x hn]
  exact if_neg (by cases x <;> decide)

/-- Samples of the other level, fewer than 20, only raise the run count. -/
theorem State.reverseSamples_count (s : State) (x : Bool) {n : Nat} (h : s.rear.reversePin = ⟨!x, 0⟩) (hn : n < 20) :
    (List.replicate n x).foldl State.reverseSample s = { s with rear := { s.rear with reversePin := ⟨!x, n⟩ } } := by
  induction n with
  | zero => rw [← h]; rfl
  | succ n ih =>
    rw [List.replicate_succ', List.foldl_append, ih (by omega)]
    exact State.reverseSample_counts { s with rear := { s.rear with reversePin := ⟨!x, n⟩ } } x rfl hn

theorem State.calSamples_count (s : State) (x : Bool) {n : Nat} (h : s.rear.calPin = ⟨!x, 0⟩) (hn : n < 20) :
    (List.replicate n x).foldl State.calSample s = { s with rear := { s.rear with calPin := ⟨!x, n⟩ } } := by
  induction n with
  | zero => rw [← h]; rfl
  | succ n ih =>
    rw [List.replicate_succ', List.foldl_append, ih (by omega)]
    exact State.calSample_counts { s with rear := { s.rear with calPin := ⟨!x, n⟩ } } x rfl hn

/-! Key pins, which read low while a key is pressed -/

theorem State.keySample_counts (s : State) (seat : Side) (key : Key) (high : Bool) {n : Nat}
    (h : (s.menus.get seat).keys.get key = ⟨high, n⟩) (hn : n + 1 < 20) :
    s.keySample seat key high = s.setKey seat key ⟨high, n + 1⟩ := by
  have hd : Debouncer.sample ⟨high, n⟩ (!high) = ⟨high, n + 1⟩ := by simpa using Debouncer.sample_counts (!high) hn
  unfold State.keySample
  simp only [State.menuOf, h, hd, if_true]

theorem State.keySample_pressed (s : State) (seat : Side) (key : Key) {n : Nat}
    (h : (s.menus.get seat).keys.get key = ⟨false, n⟩) (hn : 20 ≤ n + 1) :
    s.keySample seat key false =
      if s.media then (s.setKey seat key ⟨true, 0⟩).handPress seat key else s.setKey seat key ⟨true, 0⟩ := by
  have hd : Debouncer.sample ⟨false, n⟩ (!false) = ⟨true, 0⟩ := Debouncer.sample_passes true hn
  unfold State.keySample
  simp only [State.menuOf, h, hd]
  rfl

theorem State.keySample_released (s : State) (seat : Side) (key : Key) {n : Nat}
    (h : (s.menus.get seat).keys.get key = ⟨true, n⟩) (hn : 20 ≤ n + 1) :
    s.keySample seat key true = (s.setKey seat key ⟨false, 0⟩).setRepeat seat key none := by
  have hd : Debouncer.sample ⟨true, n⟩ (!true) = ⟨false, 0⟩ := Debouncer.sample_passes false hn
  unfold State.keySample
  simp only [State.menuOf, h, hd]
  rfl

theorem State.setKey_setKey (s : State) (seat : Side) (key : Key) (d e : Debouncer) :
    (s.setKey seat key d).setKey seat key e = s.setKey seat key e := by
  cases seat <;> cases key <;> rfl

theorem State.setKey_get (s : State) (seat : Side) (key : Key) (d : Debouncer) :
    ((s.setKey seat key d).menus.get seat).keys.get key = d := by
  cases seat <;> cases key <;> rfl

theorem State.setKey_same (s : State) (seat : Side) (key : Key) {d : Debouncer}
    (h : (s.menus.get seat).keys.get key = d) : s.setKey seat key d = s := by
  subst h
  cases seat <;> cases key <;> rfl

/-- Fewer than 20 samples of the level that is not the debounced one only raise the run count. -/
theorem State.keySamples_count (s : State) (seat : Side) (key : Key) (high : Bool) {n : Nat}
    (h : (s.menus.get seat).keys.get key = ⟨high, 0⟩) (hn : n < 20) :
    (List.replicate n high).foldl (fun s x => s.keySample seat key x) s = s.setKey seat key ⟨high, n⟩ := by
  induction n with
  | zero => exact (State.setKey_same s seat key h).symm
  | succ n ih =>
    rw [List.replicate_succ', List.foldl_append, ih (by omega), List.foldl, List.foldl,
      State.keySample_counts _ seat key high (State.setKey_get s seat key _) hn, State.setKey_setKey]

end Sys2Proof.Machine
end

