-- ==== Sys2Proof/Laws/Requests.lean ====
section
/-! SUPPORT. What the Request Unit makes of a request command: the general step that each request's own rule fills in. -/

namespace Sys2Proof.Machine

/-- The rule that carries out a request of a name. -/
def RequestName.body : RequestName → QueuedRequest → State → Answer
  | .point => pointBody
  | .put => putBody
  | .get => getBody
  | .commit => commitBody
  | .start => startBody
  | .restart => restartBody
  | .vehicle => vehicleBody
  | .view => viewBody
  | .hold => holdBody
  | .release => releaseBody
  | .key => keyBody
  | .openPage => openPageBody
  | .chime => chimeBody
  | .stopChime => stopChimeBody
  | .resume => resumeBody

/-- Every request command is one serving of its rule. -/
theorem exec_command (n : RequestName) (s : State) :
    exec n.command s = whenLive s fun s => s.serve n n.body := by
  cases n <;> rfl

theorem State.about_nextRequest {s : State} {r : QueuedRequest} {q : List QueuedRequest} (h : s.about r q) :
    s.nextRequest = some r := by
  obtain ⟨-, hs, hq⟩ := h
  simp [State.nextRequest, hs, hq]

theorem State.about_dequeue {s : State} {r : QueuedRequest} {q : List QueuedRequest} (h : s.about r q) :
    s.dequeue = s.withQueue q := by
  obtain ⟨-, -, hq⟩ := h
  simp [State.dequeue, State.withQueue, hq]

/-- The request at the front that has the name is taken and answered. -/
theorem State.serve_about {s : State} {r : QueuedRequest} {q : List QueuedRequest} {n : RequestName} (h : s.about r q)
    (hn : r.name = some n) (body : QueuedRequest → State → Answer) :
    s.serve n body = ((s.withQueue q).answer n r body).finish r := by
  simp [State.serve, State.about_nextRequest h, State.about_dequeue h, hn]

/-- A request that passes the tests of R18 is carried out by its own rule. -/
theorem State.exec_takes {s : State} {r : QueuedRequest} {q : List QueuedRequest} {n : RequestName}
    (h : s.takes n r q) : exec n.command s = .next ((n.body r (s.withQueue q)).finish r) := by
  obtain ⟨ha, hn, hr⟩ := h
  have hw : requestRefusal n (s.withQueue q).unit.service r = none := hr
  rw [exec_command, whenLive, if_pos ha.1, State.serve_about ha hn, State.answer, hw]

/-- A request that fails a test of R18 is answered with that test's code. -/
theorem State.exec_refused {s : State} {r : QueuedRequest} {q : List QueuedRequest} {n : RequestName} {code : ReplyCode}
    (ha : s.about r q) (hn : r.name = some n) (hr : requestRefusal n s.unit.service r = some code) :
    exec n.command s = .next ((s.withQueue q).finish r code [] none) := by
  have hw : requestRefusal n (s.withQueue q).unit.service r = some code := hr
  rw [exec_command, whenLive, if_pos ha.1, State.serve_about ha hn, State.answer, hw]
  rfl

/-- A command that does not name the front request, or finds none to take, changes nothing. -/
theorem State.exec_unnamed {s : State} {n : RequestName} (h : ∀ r, s.nextRequest = some r → r.name ≠ some n) :
    exec n.command s = .next s := by
  rw [exec_command, whenLive]
  split
  · rw [State.serve]
    split
    · rfl
    · next r hr => rw [if_neg (h r hr)]
  · rfl

end Sys2Proof.Machine
end

