-- ==== Sys2Proof/Tests/Slice0.lean ====
section
/-! SUPPORT. Small tests: the checks of WellFormed, numbers worked out in the spec's own examples, and for each statement
with hypotheses a state and operands that meet them, clause by clause. -/

namespace Sys2Proof.Tests

open Sys2Proof Sys2Proof.Machine

section Evaluated

/- The kernel evaluates these tests; each waits for the ones before it, so they are taken one at a time. -/
set_option Elab.async false

/-! Helper states -/

/-- Both descriptors: 320 by 192 active pixels in a raster of 400 by 300. -/
def rasters : Table :=
  Table.writeFrom (Table.ofWords 0 [0, 400, 1, 2, 320, 300, 1, 2, 192]) 16 [0, 400, 1, 2, 320, 300, 1, 2, 192]

/-- A legal composition: window 4 by 4 at (2, 2), scale 2, shade level 2, banner time 100 ms. -/
def bank : Table := Table.ofWords 0 [1, 2, 2, 4, 4, 2, 3, 2, 0, 0, 0, 0, 0, 100]

def px (n : Nat) : Rgb := ⟨BitVec.ofNat 8 n, 0, 0⟩

/-- The part with its link UP. -/
def up : State :=
  { State.reset with link := { State.reset.link with up := true, silence := true, seen := true } }

/-- The part in MEDIA with legal rasters and compositions. -/
def media : State :=
  { up with
    unit := { up.unit with service := .media }
    tables := { up.tables with raster := rasters, composeA := ⟨bank, bank, .idle⟩, composeB := ⟨bank, bank, .idle⟩ } }

/-- A reader PLAYING programme 0 inside its window, with line 1 needed next. -/
def reader : Reader := ⟨.playing, some 0, 0, .inside, 1, 0, none, false, true⟩

/-- A display at row 2, its window top passed. -/
def shown (store : List Slot) (r : Reader) : Display := ⟨store, r, some bank, none, none, some ⟨2, true, false⟩, []⟩

/-- Display A plays programme 0 (16 by 16, last tag 0) from a store with these slots; display B shows nothing. -/
def playing (store : List Slot) (r : Reader) : State :=
  { media with disp := ⟨shown store r, stoppedDisplay⟩, formats := { clearFormats with p0 := ⟨16, 16, some 0⟩ } }

/-- Sixteen slots of tag 1. -/
def full : List Slot := (List.range 16).map fun n => ⟨1, n, [px n], false⟩

/-- The state with one waiting request. -/
def asks (s : State) (ws : List Word) : State :=
  { s with held := none, unit := { s.unit with status := .ready, queue := [⟨ws, 7, true⟩] } }

def req (ws : List Word) : QueuedRequest := ⟨ws, 7, true⟩

theorem asks_about (s : State) (ws : List Word) : (asks s ws).about (req ws) [] := ⟨rfl, rfl, rfl⟩

theorem asks_takes (s : State) (n : RequestName) (ws : List Word)
    (h : (req ws).name = some n ∧ requestRefusal n s.unit.service (req ws) = none) :
    (asks s ws).takes n (req ws) [] := ⟨asks_about s ws, h.1, h.2⟩

/-- The state with the window pointer at a word. -/
def at_ (s : State) (t : TableId) (i : Nat) : State := { s with unit := { s.unit with pointer := ⟨t, i⟩ } }

/-- Seat A with these page entries. -/
def opened (s : State) (stack : List PageEntry) : State := { s with menus := s.menus.set .a ⟨stack, none, none,
  PerKey.all ⟨false, 0⟩, PerKey.all none⟩ }

/-! WellFormed: an ill-formed command is refused by each check -/

theorem test_wellFormed_parcels :
    (Instr.fill (parcelWords 0 0 0 [])).wellFormed = true ∧ (Instr.fill (parcelWords 0x1000 0 0 [])).wellFormed = false ∧
    (Instr.discardedParcel [1, 2, 3]).wellFormed = true ∧
    (Instr.discardedParcel (parcelWords 0 0 0 [])).wellFormed = false ∧
    (Instr.pictureLine (parcelWords 0x1000 4 0 [1, 2, 3, 4])).wellFormed = false ∧
    (Instr.pictureMark (parcelWords 0x2000 3 0 [1, 2, 3])).wellFormed = false ∧
    (Instr.sound (parcelWords 0x3000 3 0 [1, 2, 3])).wellFormed = false ∧
    (Instr.request (parcelWords 0x4000 0 0 [])).wellFormed = false := by decide +kernel

theorem test_wellFormed_inputs :
    (Instr.cameraRow (List.replicate 4096 Rgb.black)).wellFormed = false ∧
    (Instr.reverseLevelChange (List.replicate 19 true)).wellFormed = false ∧
    (Instr.reverseLevelChange (List.replicate 20 true)).wellFormed = true ∧
    (Instr.calLevelChange (List.replicate 19 false)).wellFormed = false ∧
    (Instr.press .a .up (List.replicate 20 true)).wellFormed = false ∧
    (Instr.keyRelease .a .up (List.replicate 20 false)).wellFormed = false ∧
    (Instr.repeatTimerExpiry .a .menu).wellFormed = false := by decide +kernel

/-! Numbers from outside the model -/

/-- The published check value of this CRC (polynomial 0x1021, start 0xFFFF) over the characters 1 to 8 is 0xA12B (R5). -/
theorem test_crc : checkWord [0x3132, 0x3334, 0x3536, 0x3738] = 0xA12B := by decide +kernel

/-- R4: two pixels fill three words, a third pixel two more. -/
theorem test_pixels : unpackPixels [0x0102, 0x0304, 0x0506, 0x0708, 0x0900] = [⟨1, 2, 3⟩, ⟨4, 5, 6⟩, ⟨7, 8, 9⟩] := by
  decide

/-- Table 4-6. -/
theorem test_blend : blendChannel 100 255 3 = 216 ∧ blendChannel 255 0 3 = 63 ∧ blendChannel 31 0 2 = 15 ∧
    blendChannel 60 0 2 = 30 := by decide

/-- R69. -/
theorem test_shade : shadeChannel 200 3 = 50 ∧ shadeChannel 255 1 = 192 := by decide

/-- Section 5.9: the counter at a sample of Table 5-7, with F 0, limit 1,536 and index mode DIRECTIONAL. -/
def wheel (count : Int) (st : SteerState) (a b ix : Bool) (dir : Option Direction) : State :=
  { State.reset with
    steer := ⟨st, count, false, 0, 0, .unreferenced, ⟨a, 0⟩, ⟨b, 0⟩, ⟨ix, 0⟩, a, b, ix, dir, false⟩
    tables := { State.reset.tables with steering := Table.ofWords 0 [1, 0, 0, 1536, 0, 0] } }

/-- What a sample leaves of the count, the state and the last direction. -/
def sampled (s : State) (a b ix : Bool) : Int × SteerState × Option Direction × Nat :=
  let t := s.steer.sample (steerSetup s.tables.steering) a b ix
  (t.count, t.state, t.lastDir, t.faults)

/-- Table 5-7, samples 2, 7, 9 and 10. -/
theorem test_filterSample :
    sampled (wheel 40 .unreferenced false false false none) false true false = (41, .unreferenced, some .forward, 0) ∧
    sampled (wheel 43 .unreferenced true false false (some .backward)) false true false = (43, .fault, none, 1) ∧
    sampled (wheel 42 .fault false false false (some .backward)) false false true = (42, .fault, some .backward, 0) ∧
    sampled (wheel 42 .fault false false true (some .backward)) true false false = (0, .referenced, some .backward, 0) := by
  decide +kernel

/-- Table 5-8, steps 2 and 3: a step past the limit 1,536 leaves the count there. -/
theorem test_limit :
    sampled (wheel 1535 .referenced false false false none) false true false = (1536, .referenced, some .forward, 0) ∧
    sampled (wheel 1536 .referenced false false false none) false true false = (1536, .referenced, some .forward, 0) := by
  decide +kernel

/-- Section 7.8: the guide fields with key shapes 7 and 8 of Table 7-6 in their first three control rows. -/
def guide78 : Table :=
  let t := Table.writeFrom (Table.ofWords 32 [0, 1, 1, 464, 704, 17, 12, 4, 60, 120, 180, 4, 0, 0, 0x03FF, 0]) 54
    ((List.range 17).map fun j => BitVec.ofInt 16 (-1024 + 128 * (j : Int)))
  Table.writeFrom (Table.writeFrom (Table.writeFrom (Table.writeFrom t 222 [2400, 2520, 2630]) 231 [3480, 3414, 3330]) 240
    [2480, 2560, 2650]) 249 [3560, 3454, 3350]

/-- Section 7.8, stages 1 and 2 (Table 7-7). -/
theorem test_shape : keyAndWeight guide78 (-40) = (7, some 176) ∧ keyAndWeight guide78 (-20) = (7, some 216) ∧
    (trajShape guide78 (-40) 0).take 3 = [2455, 2548, 2644] ∧
    (trajShape guide78 (-40) 9).take 3 = [3535, 3442, 3344] := by decide +kernel

/-- Section 7.8, stage 3 at camera rows 692 and 644: the spans, and the blended pixel at column 620. -/
theorem test_spans : lineSpan guide78 (trajShape guide78 (-40) 0) 12 = ⟨617, 628⟩ ∧
    lineSpan guide78 (trajShape guide78 (-40) 9) 12 = ⟨868, 879⟩ ∧
    lineSpan guide78 (trajShape guide78 (-40) 0) 60 = ⟨656, 665⟩ ∧
    lineSpan guide78 (trajShape guide78 (-40) 9) 60 = ⟨831, 840⟩ ∧
    (zonePaint guide78 12).over ⟨40, 80, 120⟩ = ⟨201, 20, 30⟩ := by decide +kernel

/-- Section 7.9, rows 464 and 479: widths and positions at full lock (Table 7-9). -/
theorem test_fullLock : linePosition [0, 0, 0, 0, 0, 0, 0, 100, -40] 30 240 = -40 ∧
    linePosition [0, 0, 0, 0, 0, 0, 0, 4960, 5118] 30 240 = 5118 ∧
    linePosition [0, 0, 0, 0, 0, 0, 0, 100, -40] 30 225 = 30 ∧
    linePosition [0, 0, 0, 0, 0, 0, 0, 4960, 5118] 30 225 = 5039 ∧
    lineWidth guide78 240 = 4 ∧ lineWidth guide78 225 = 5 ∧ lineWidth guide78 60 = 10 := by decide +kernel

/-- Section 9.6 (Table 9-3), and its second case with two voices. -/
theorem test_mix :
    let o : OutletState := ⟨some 1, none, 16384, 8192, Stereo.silence⟩
    let v : Int := scaled (30000 * 24576) * 32768
    let w : Int := scaled (30000 * 32768) * 32768
    programmeGain o = 4096 ∧ channelSum o 20000 v = 819200000 ∧ scaled (channelSum o 20000 v) = 25000 ∧
      scaled (channelSum o 20000 (w + w)) = 62500 ∧ saturate 62500 = 32767 ∧ clipCount 62500 25000 = 1 := by decide

/-- Table 10-3. -/
def chimeTable : Table :=
  let t := Table.writeFrom (Table.ofWords 24 [0, 1200, 0, 0, 32768, 2, 1, 0]) 48 [0, 24000, 0, 0, 32768, 6, 4, 2]
  let t := Table.writeFrom (Table.writeFrom t 72 [0, 480, 9600, 0, 32768, 3, 4, 1]) 112 [0, 72000, 0, 0, 32768, 5, 4, 3]
  Table.writeFrom t 160 [0, 9600, 0, 0, 32768, 7, 7, 2]

def voice (n order : Nat) : Voice := ⟨n, false, .head, 0, some 1, 32768, order, none⟩

/-- Section 10.10 before step 1, and before step 5. -/
def before1 : ChimeEngine := ⟨⟨some (voice 9 0), some (voice 3 1), some (voice 14 2)⟩, [], [], 0, 3⟩
def before5 : ChimeEngine :=
  ⟨⟨some (voice 6 3), some { voice 3 1 with releasing := true }, some (voice 14 2)⟩, [⟨9, .head, 0, some 1⟩], [], 4, 4⟩

/-- Which chimes are on the voices (with RELEASING), and on the suspend list, its top first. -/
def engine (c : ChimeEngine) : List (Option (Nat × Bool)) × List Nat :=
  ([c.voices.v0, c.voices.v1, c.voices.v2].map fun x => x.map fun v => (v.chime, v.releasing),
    c.suspended.map fun p => p.chime)

/-- Table 10-4, steps 1, 3, 4 and 5. -/
theorem test_chimes : engine (before1.setLevel chimeTable 4) = ([none, some (3, true), some (14, false)], [9]) ∧
    before5.settle chimeTable 9 = before5 ∧ before5.settle chimeTable 3 = before5 ∧
    engine (before5.settle chimeTable 20) = ([some (6, false), some (3, true), some (20, false)], [14, 9]) := by
  decide +kernel

/-- Section 8.10: seat A OPEN on page 2 with a highlight, item 21 disabled, item 22 NOTIFY 7, two SELECT records queued. -/
def menuA (h : Nat) : State :=
  let select : Notice := ⟨.select, 0, 0, 0⟩
  opened { media with
    notices := ⟨[select, select], 0⟩
    tables := { media.tables with
      control := Table.writeFrom media.tables.control 13 [2, 0, 10, 11, 12]
      route := Table.ofWords 0 [3, 1, 0, 1, 15]
      pages := Table.ofWords 16 [20, 3, 4, 5, 6, 255, 255, 8]
      items := Table.writeFrom (Table.writeFrom (Table.ofWords 400 [0x8000, 4, 1]) 420 [0, 7, 3]) 440 [0x8000, 6, 7] } }
    [⟨2, some h⟩]

/-- Table 8-6, steps 2, 4 and 5: the highlight passes the disabled item and stays at the end. -/
theorem test_upDown : ((menuA 0).pressKey .a .down).menus.a.stack = [⟨2, some 2⟩] ∧
    ((menuA 2).pressKey .a .down).menus.a.stack = [⟨2, some 2⟩] ∧
    ((menuA 2).pressKey .a .up).menus.a.stack = [⟨2, some 0⟩] ∧ ((menuA 2).pressKey .a .up).menus.a.timeout = some 8 := by
  decide +kernel

/-- Table 8-6, steps 3 and 7: a refused SELECT notice, and a ROUTE action. -/
theorem test_select : ((menuA 2).pressKey .a .select).notices = (menuA 2).notices ∧
    ((menuA 0).pressKey .a .select).tables.route = Table.ofWords 0 [1, 1, 1, 1, 15] ∧
    ((menuA 0).pressKey .a .volUp).tables.mixer.nat 21 = 11 := by decide +kernel

/-- Section 3.8 (Table 3-4), steps 7, 8, 13 and 20: what becomes of an arriving line. -/
theorem test_arrival :
    let f : Format := ⟨320, 20, some 1⟩
    let x (phase : Phase) (next : Nat) : Display := shown [] { reader with openTag := 1, phase := phase, nextLine := next }
    (x .inside 8).arrival f 1 7 1 = .late ∧ (x .inside 8).arrival f 1 8 1 = .appended ∧
      (x .inside 9).arrival f 1 11 1 = .appended ∧ (x .after 16).arrival f 1 5 1 = .late ∧
      (x .after 16).arrival f 1 20 1 = .malformed := by decide

/-- R96 with active start pixel 2 and active width 3: pixel count 2 is column 0, and a line that ends early is filled. -/
theorem test_cameraColumns :
    let d := Table.ofWords 2 [2, 1, 3]
    cameraColumns d (px 9) ((List.range 8).map px) = [px 2, px 3, px 4] ∧
    cameraColumns d (px 9) ((List.range 4).map px) = [px 2, px 3, px 9] ∧
    cameraColumns d (px 9) [px 0] = [px 9, px 9, px 9] := by decide +kernel

/-- R62 with pixel clock code 0 of Table 4-2: the pixel clock runs at 24 MHz in MEDIA and is held low while stopped. -/
theorem test_screenPins :
    (media.screenPins .b 0 0).clk = .running 24000 ∧ up.screenPins .b 0 0 = ⟨.heldLow, false, false, false, Rgb.black⟩ := by
  decide +kernel

/-- R150: the left sample is sent first; no reset, then a reset. -/
theorem test_soundPins :
    let o : OutletState := ⟨none, none, 0, 32768, ⟨1, 2⟩⟩
    { up with outlets := ⟨o, o, o⟩ }.soundPins = ⟨some 48000, some 48000, [1, 2], [1, 2], [1, 2]⟩ ∧
    ({ up with held := some .pin } : State).soundPins = ⟨none, none, [0, 0], [0, 0], [0, 0]⟩ := by decide +kernel

/-! Witnesses: for each statement with hypotheses, concrete states and operands that meet them, clause by clause. A
request command's common hypothesis is `State.takes` or `State.about`. -/

theorem test_witness_StepRunsFrontCommand :
    ({ up with pending := [.parcelEnd] }).pending = .parcelEnd :: [] ∧ up.pending = [] := ⟨rfl, rfl⟩

def fullDue : State := { up with unit := { up.unit with status := .restarting .full true } }

theorem test_witness_ResetsLoadResetValues :
    (∀ k : ResetKind, ({ up with held := some k }).held = some k ∧ ({ up with held := some k }).held ≠ none) ∧
    (fullDue.held = none ∧ fullDue.unit.status = .restarting .full true) ∧
    (up.held = none ∧ up.unit.status ≠ .restarting .full true) ∧
    Instr.parcelEnd ≠ .powerOnReset ∧ Instr.parcelEnd ≠ .pinReset ∧ ∀ a b, Instr.parcelEnd ≠ .resetRelease a b := by
  refine ⟨fun k => by simp, by decide, by decide, by decide, by decide, fun a b => by simp⟩

def mediaDue : State := { media with unit := { media.unit with status := .restarting .media true } }

theorem test_witness_MediaRestartStopsMediaSide :
    (mediaDue.held = none ∧ mediaDue.unit.status = .restarting .media true) ∧
    (mediaDue.tables.composeA.state ≠ .swapPending ∧ mediaDue.tables.composeB.state ≠ .swapPending ∧
      mediaDue.disp.a.reader.picture = .noSource ∧ mediaDue.disp.b.reader.picture = .noSource) ∧
    (media.held = none ∧ media.unit.status ≠ .restarting .media true) := by decide

theorem test_witness_FailedParcelCountsOnce :
    up.held = none ∧ ([1, 2, 3] : List Word).length < 4 ∧ (1 : Word) ≠ checkWord (0 :: 0 :: 0 :: []) ∧
    (countField 1 ≠ ([] : List Word).length ∨ ¬ downstreamLegal (kindField 0) 0) ∧
    (countField 1 ≠ ([7] : List Word).length ∨ ¬ downstreamLegal (kindField 0x5000) 1) ∧
    up.tables.stats.wf = true ∧ (1 : Nat) ≠ 0 := by
  unfold downstreamLegal
  decide +kernel

theorem test_witness_ValidParcelKeepsLinkAlive :
    up.held = none ∧ kindField 0 = 0 ∧ countField 0 = 0 ∧ up.link.up = true ∧
    (State.reset.link.up = false ∧ State.reset.link.seen = false) ∧
    (let s : State := { up with link := { up.link with up := false, silence := false } }
     s.link.up = false ∧ s.link.seen = true) ∧
    up.unit.service = .cameraOnly ∧
    (countField 2 = 2 ∧ kindField 0x1000 = 1 ∧ downstreamLegal (kindField 0x1000) 2) ∧
    (countField 2 = 2 ∧ kindField 0x2000 = 2 ∧ downstreamLegal (kindField 0x2000) 2) ∧
    (countField 128 = 128 ∧ kindField 0x3000 = 3 ∧ downstreamLegal (kindField 0x3000) 128) := by
  unfold downstreamLegal
  decide

/-- Display A: a route of another programme, then the rows of Table 3-1 at line 16, line 0, line 1, line 2 and line 15. -/
theorem test_witness_PictureLineFansOut :
    ((playing [] reader).held = none ∧ (playing [] reader).unit.service = .media ∧
      (playing [] reader).tables.stats.wf = true ∧ kindField 0x1000 = 1 ∧ countField 2 = 2 ∧ downstreamLegal 1 2 ∧
      progField 0x1000 = 0 ∧ tagField 0x1000 = 0 ∧ progField 0x1040 = 1) ∧
    (reader.route ≠ some 1 ∧ reader.route = some 0 ∧ reader.picture = .playing) ∧
    ((playing [] reader).formats.p0.height ≤ lineField 16) ∧
    (reader.openTag = 0 ∧ reader.phase = .inside ∧ lineField 0 < reader.nextLine) ∧
    (¬ lineField 1 < reader.nextLine ∧ ∃ y ∈ [(⟨0, 1, [], false⟩ : Slot)], y.tag = 0 ∧ y.line = lineField 1) ∧
    (16 ≤ full.length ∧ ¬ ∃ y ∈ full, y.tag = 0 ∧ y.line = lineField 2) ∧
    (¬ (playing [] reader).formats.p0.height ≤ lineField 15 ∧ ¬ 16 ≤ ([] : List Slot).length) := by
  unfold downstreamLegal
  decide

theorem test_witness_PictureMarkSetsFormat :
    let s := playing [] reader
    (s.held = none ∧ s.unit.service = .media ∧ s.tables.stats.wf = true ∧ kindField 0x2000 = 2 ∧ countField 2 = 2 ∧
      (1 : Prog) ≠ progField 0x2000) ∧
    ¬ 16 ≤ (15 : Word).toNat ∧ (16 ≤ (1280 : Word).toNat ∧ (1280 : Word).toNat ≤ 1280 ∧ (800 : Word).toNat ≤ 800) ∧
    (s.disp.a.reader.route = some (progField 0x2000) ∧ s.disp.a.reader.picture = .playing ∧
      ¬ (s.formats.p0.width = 0 ∧ s.formats.p0.height = 0) ∧ s.formats.p0.width ≠ 1280) ∧
    (s.formats.p0.width = 16 ∧ s.formats.p0.height = 16 ∧ s.formats.p0.lastTag ≠ some (tagField 0x2010) ∧
      s.disp.a.reader.openTag ≠ tagField 0x2010) ∧ s.formats.p0.lastTag = some (tagField 0x2000) ∧
    (let shows (a b : Reader) : State := { s with disp := ⟨shown [] a, shown [] b⟩ }
     let halts (t : State) (d : Side) : Bool := (t.disp.get d).reader.route == some 0 &&
       ((t.disp.get d).reader.picture == .playing || (t.disp.get d).reader.picture == .stalled)
     let other : Reader := { reader with route := some 1 }
     [shows reader reader, shows reader other, shows other reader, shows other other].map
       (fun t => (halts t .a, halts t .b)) = [(true, true), (true, false), (false, true), (false, false)]) := by decide

/-- A ring that holds `n` frames. -/
def ring (st : SoundState) (n : Nat) : Ring := ⟨st, List.replicate n Stereo.silence⟩

def sounding (r : Ring) : State := { media with rings := { emptyRings with p0 := r } }

theorem test_witness_SoundParcelFillsRing :
    (media.held = none ∧ media.unit.service = .media ∧ media.tables.stats.wf = true ∧ kindField 0x3000 = 3 ∧
      countField 2 = 2 ∧ downstreamLegal 3 2 ∧ progField 0x3000 = 0 ∧ (unpackFrames [1, 2]).length = 1) ∧
    media.rings.p0.state = .unrouted ∧
    ((sounding (ring .priming 255)).rings.p0.state = .priming ∧
      256 ≤ min 512 ((sounding (ring .priming 255)).rings.p0.frames.length + 1)) ∧
    ¬ 256 ≤ min 512 ((sounding (ring .priming 254)).rings.p0.frames.length + 1) ∧
    (sounding (ring .playing 512)).rings.p0.frames.length ≤ 512 := by
  unfold downstreamLegal
  decide +kernel

theorem test_witness_RequestAdmittedByStation :
    (up.held = none ∧ kindField 0x4300 = 4 ∧ countField 1 = 1 ∧ downstreamLegal 4 1) ∧
    stationField 0x4300 = 3 ∧ stationField 0x4000 = 0 ∧ stationField 0x4500 = 5 ∧
    (15 : BitVec 4).toNat = 15 ∧ (3 : BitVec 4).toNat = 3 ∧ up.link.strap.toNat = 0 ∧
    up.unit.queue.length < 8 ∧ 8 ≤ (List.replicate 8 (req [5])).length ∧ (List.replicate 7 (req [5])).length < 8 := by
  unfold downstreamLegal
  decide

def answered (k : Option RestartKind) : State :=
  { up with link := { up.link with slot := some ⟨1, .done, [], k⟩ } }

theorem test_witness_SilenceTakesLinkDown :
    State.reset.held = none ∧ State.reset.link.silence = false ∧ up.link.silence = true ∧
    up.tables.stats.wf = true ∧ (answered (some .full)).link.slot = some ⟨1, .done, [], some .full⟩ ∧
    (answered none).link.slot = some ⟨1, .done, [], none⟩ ∧ up.link.slot = none := by decide

theorem test_witness_ParcelEndChoosesNext :
    State.reset.held = none ∧ State.reset.link.up = false ∧ up.link.up = true ∧
    ({ up with rear := { up.rear with queue := [.mark .camera 0 16 16] } }).rear.queue = .mark .camera 0 16 16 :: [] ∧
    ((answered none).rear.queue = [] ∧ (answered none).link.slot ≠ none) ∧
    ({ up with notices := ⟨[⟨.steer, 0, 3, 0⟩], 5⟩ }).notices.records = ⟨.steer, 0, 3, 0⟩ :: [] ∧
    (up.rear.queue = [] ∧ up.link.slot = none ∧ up.notices.records = []) := by decide

theorem test_witness_SentParcelsAreWhole :
    (List.replicate 32 (1 : Word)).length ≤ 32 ∧ 1280 ≤ 1280 ∧ 800 ≤ 800 ∧ 799 < 1024 ∧
      1 ≤ (List.replicate 1280 Rgb.black).length ∧ (List.replicate 1280 Rgb.black).length ≤ 1280 := by decide +kernel

theorem test_witness_ReplyDelivery :
    (req [5]).wanted = true ∧ (⟨[5], 7, false⟩ : QueuedRequest).wanted = false ∧ (answered none).link.slot ≠ none ∧
    up.link.slot = none ∧ up.link.up = true ∧ State.reset.link.up = false ∧ up.held = none ∧
    ({ up with unit := { up.unit with status := .holding ⟨1, .done, [], none⟩ } }).unit.status =
      .holding ⟨1, .done, [], none⟩ ∧ (∀ r, up.unit.status ≠ .holding r) :=
  ⟨rfl, rfl, by decide, rfl, rfl, rfl, rfl, rfl, fun r => by simp [up, State.reset, State.blank, resetUnit]⟩

/-- Unknown names at 0 and 16; a wrong length; KEY in CAMERA_ONLY and START in MEDIA; a GET of 33 words and of 32. -/
theorem test_witness_RefusedRequestOnlyReplies :
    (∀ s ws, (asks s ws).about (req ws) []) ∧
    ((req [0]).name = none ∧ (req [16]).name = none ∧ (req [15]).name = some .resume) ∧
    ((req [3]).name = some .get ∧ (req [3]).payload.length ≠ 2) ∧
    ((req [11, 0, 0]).name = some .key ∧ (req [11, 0, 0]).payload.length = 3 ∧
      (asks up [11, 0, 0]).unit.service = .cameraOnly) ∧
    ((req [5]).name = some .start ∧ (req [5]).payload.length = 1 ∧ (asks media [5]).unit.service = .media) ∧
    ((req [3, 33]).payload.length = 2 ∧ ¬ (req [3, 33]).arg 0 ≤ 32) ∧
    (1 ≤ (req [3, 32]).arg 0 ∧ (req [3, 32]).arg 0 ≤ 32) ∧ (req [3, 32]).name ≠ some .put ∧
    (mediaDue.held = none ∧ mediaDue.unit.status ≠ .ready ∧ up.unit.queue = []) := by
  refine ⟨asks_about, ?_⟩
  decide

theorem test_witness_PointAndGet :
    (asks up [1, 19, 0]).takes .point (req [1, 19, 0]) [] ∧ 18 < (req [1, 19, 0]).arg 0 ∧
    (asks up [1, 0, 16]).takes .point (req [1, 0, 16]) [] ∧ tableOfId ((req [1, 0, 16]).arg 0) = some .ident ∧
    tableSize .ident ≤ (req [1, 0, 16]).arg 1 ∧
    (asks up [1, 0, 15]).takes .point (req [1, 0, 15]) [] ∧ (req [1, 0, 15]).arg 1 < tableSize .ident ∧
    (asks up [3, 32]).takes .get (req [3, 32]) [] ∧ stagingOf (asks up [3, 32]).unit.pointer.table = none ∧
    (let s : State := at_ { media with tables := { media.tables with composeA := ⟨bank, bank, .copying⟩ } } .composeA 0
     stagingOf (asks s [3, 1]).unit.pointer.table = some .composeA ∧
       ((asks s [3, 1]).tables.group .composeA).state ≠ .idle) ∧
    (-4095 ≤ up.steer.count ∧ up.steer.count ≤ 4095 ∧ up.steer.faults ≤ 65535 ∧ -4095 ≤ up.steer.capCount ∧
      up.steer.capCount ≤ 4095) :=
  ⟨asks_takes _ _ _ (by decide), by decide, asks_takes _ _ _ (by decide), by decide, by decide,
    asks_takes _ _ _ (by decide), by decide, asks_takes _ _ _ (by decide), by decide, by decide, by decide⟩

/-- A chime on voice 0, for IN_USE. -/
def chiming : State := { up with
  tables := { up.tables with chimes := chimeTable }
  chimes := { resetChimes with voices := ⟨some (voice 3 0), none, none⟩, starts := 1 } }

/-- A word that takes no write; table 18 without a hold; a busy group; a chime on a voice; an illegal word behind a legal
one; a run that passes; a run of no words at the table's end. -/
theorem test_witness_PutTestsRunInOrder :
    (∀ s, s.unit.service = up.unit.service → (asks s [2, 1, 0]).takes .put (req [2, 1, 0]) []) ∧
    wordWritable (at_ up .ident 3).unit.pointer.table (3 + 0) = false ∧
    (wordWritable .cameraActive 0 = true ∧ ¬ (up.guide.hold = .held ∧ up.guide.holdRequest = true)) ∧
    (stagingOf .camera = some .camera ∧
      (({ up.tables with camera := { up.tables.camera with state := .swapPending } } : TableStore).group .camera).state ≠
        .idle) ∧
    (chiming.readyFor .chimes).wordInUse .chimes (24 + 0) = true ∧
    (wordLegal .route (0 + 0) 15 = true ∧ wordLegal .route (0 + 1) 4 = false ∧
      ((asks (at_ up .route 0) [2, 2, 15, 4]).readyFor .route).wordInUse .route 0 = false) ∧
    wordLegal .route (0 + 0) 3 = true ∧ ([0] : List Word).take (tableSize .route - 8) = [] ∧
    TableId.pages ≠ .raster ∧ TableId.pages ≠ .chimes ∧ TableId.pages ≠ .waves ∧ 65535 < 65536 := by
  refine ⟨fun s h => asks_takes _ _ _ ⟨by decide, by rw [h]; decide⟩, ?_⟩
  decide +kernel

/-- Runs that pass: in PAGES, over the end of ROUTE's table, over CONTROL word 9, to IDENT word 4 and to STATS. -/
theorem test_witness_PutStoresRun :
    (∀ s, s.unit.service = up.unit.service → (asks s [2, 1, 0]).takes .put (req [2, 1, 0]) []) ∧
    up.tables.fits = true ∧
    ((up.withQueue []).readyFor .pages).putRefusal .pages 255 [7] = none ∧
    ((up.withQueue []).readyFor .control).putRefusal .control 9 [2] = none ∧
    ((up.withQueue []).readyFor .ident).putRefusal .ident 4 [0] = none ∧
    ((up.withQueue []).readyFor .stats).putRefusal .stats 63 [9] = none ∧
    ((up.withQueue []).readyFor .waves).putRefusal .waves 65535 [9] = none := by
  refine ⟨fun s h => asks_takes _ _ _ ⟨by decide, by rw [h]; decide⟩, ?_⟩
  decide +kernel

theorem test_witness_SteeringSetupWrite :
    (∀ s, s.unit.service = up.unit.service → (asks s [2, 1, 0]).takes .put (req [2, 1, 0]) []) ∧
    up.tables.fits = true ∧ (at_ up .steering 8).unit.pointer.table = .steering ∧
    (up.withQueue []).putRefusal .steering 8 [0] = none ∧ (up.withQueue []).putRefusal .steering 0 [0] = none ∧
    (up.withQueue []).putRefusal .steering 5 [2] = none ∧ ([2] : List Word).length ≤ 16 - 5 := by
  refine ⟨fun s h => asks_takes _ _ _ ⟨by decide, by rw [h]; decide⟩, ?_⟩
  decide +kernel

theorem test_witness_CheckedBanksHoldLegalWords :
    rasterFailure rasters .a = none ∧ composeFailure bank (some (320, 192)) = none ∧
    descriptorFailure defaultCamera = none ∧ guideFailure defaultCamera 720 = none ∧
    rasterFailure [] .b = some 17 ∧ composeFailure [] none = some 3 ∧ firstFailing [(true, 3), (false, 5)] = some 5 := by
  decide +kernel

theorem test_witness_CommitChecksAndExchanges :
    (∀ s, (asks s [4, 1]).takes .commit (req [4, 1]) []) ∧
    (⟨bank, bank, .copying⟩ : Group).state ≠ .idle ∧
    (up.tables.composeA.state = .idle ∧ composeFailure up.tables.composeA.staging none = some 3) ∧
    (media.tables.composeA.state = .idle ∧
      composeFailure media.tables.composeA.staging (displaySize media.tables.raster .a) = none ∧
      media.unit.service = .media) ∧
    (let s : State := { media with unit := { media.unit with service := .cameraOnly } }
     s.tables.composeA.state = .idle ∧ s.unit.service = .cameraOnly) := by
  refine ⟨fun s => asks_takes _ _ _ ⟨by decide, by cases s.unit.service <;> decide⟩, ?_⟩
  decide +kernel

theorem test_witness_StartRestartAndResume :
    (asks up [5]).takes .start (req [5]) [] ∧ rasterFailure up.tables.raster .a = some 1 ∧
    (rasterFailure (rasters.write 17 0) .a = none ∧ rasterFailure (rasters.write 17 0) .b = some 17) ∧
    (rasterFailure rasters .b = none ∧ composeFailure (bank.write 5 0) (displaySize rasters .a) = some 5) ∧
    composeFailure bank (displaySize rasters .b) = none ∧
    (asks up [6, 1]).takes .restart (req [6, 1]) [] ∧ (asks media [15, 1]).takes .resume (req [15, 1]) [] ∧
    media.disp.b.reader.picture ≠ .halted ∧ (shown [] { reader with picture := .halted }).reader.picture = .halted :=
  ⟨asks_takes _ _ _ (by decide), by decide +kernel, by decide +kernel, by decide +kernel, by decide +kernel,
    asks_takes _ _ _ (by decide), asks_takes _ _ _ (by decide), by decide, by decide⟩

def reversing (r : ReverseState) (pin : Bool) : State := { up with rear := { up.rear with
  reverse := r, reversePin := ⟨pin, 0⟩, linger := if r = .linger then some 5 else none } }

theorem test_witness_ReverseFollowsSource :
    (up.held = none ∧ up.rear.reversePin = ⟨!true, 0⟩ ∧ 19 < 20) ∧ (asks up [7, 1]).takes .vehicle (req [7, 1]) [] ∧
    (up.tables.control.nat 9 = 2 ∧ (up.tables.control.write 9 0).nat 9 = 0 ∧ (up.tables.control.write 9 1).nat 9 = 1) ∧
    ((reversing .off true).reverseSource = true ∧ (reversing .linger true).reverseSource = true ∧
      (reversing .on true).reverseSource = true ∧ (reversing .on false).reverseSource = false ∧
      (reversing .off false).reverseSource = false) ∧
    ((up.tables.control.write 10 7).nat 10 ≠ 0 ∧ up.tables.control.nat 10 = 0) ∧
    ((reversing .linger false).rear.reverse = .linger ∧ (reversing .linger false).rear.linger ≠ none) ∧
    (reversing .on false).rear.reverse ≠ .linger :=
  ⟨by decide, asks_takes _ _ _ (by decide), by decide, by decide, by decide, by decide, by decide⟩

theorem test_witness_ViewFollowsInputs :
    (up.rear.autocam = false ∧ up.rear.bankLoaded = false ∧ up.rear.viewOf = up.rear.actual) ∧
    (let v : RearView := { (reversing .on true).rear with autocam := true }
     v.autocam = true ∧ v.reverse ≠ .off ∧ v.viewOf ≠ v.actual) ∧
    (let v : RearView := { up.rear with bankLoaded := true }
     v.bankLoaded = true ∧ v.reverse = .off) ∧ (asks up [8, 2]).takes .view (req [8, 2]) [] :=
  ⟨by decide, by decide, by decide, asks_takes _ _ _ (by decide)⟩

theorem test_witness_HoldFollowsCauses :
    (asks up [9]).takes .hold (req [9]) [] ∧ (asks up [10]).takes .release (req [10]) [] ∧ up.guide.hold = .free ∧
    ({ up.guide with hold := .held, holdRequest := true } : GuideOverlay).hold ≠ .free ∧
    (up.held = none ∧ up.rear.calPin = ⟨!true, 0⟩ ∧ 19 < 20) ∧
    ({ up.rear with calPin := ⟨true, 0⟩ } : RearView).calPin = ⟨true, 0⟩ :=
  ⟨asks_takes _ _ _ (by decide), asks_takes _ _ _ (by decide), by decide, by decide, by decide, by decide⟩

def repeating : State := { media with tables := { media.tables with control := media.tables.control.write 18 1 } }

/-- Seat A's UP key pressed, its repeat timer, timeout and banner running. -/
def pressed (s : State) : State :=
  let keys : PerKey Debouncer := (PerKey.all ⟨false, 0⟩).set .up ⟨true, 0⟩
  let repeats : PerKey (Option Nat) := (PerKey.all none).set .up (some 500)
  { s with menus := s.menus.set .a ⟨[⟨1, none⟩], some 5, some 9, keys, repeats⟩ }

theorem test_witness_PressesReachMenus :
    (up.held = none ∧ (up.menus.get .a).keys.get .up = ⟨false, 0⟩ ∧ up.unit.service = .cameraOnly) ∧
    (media.unit.service = .media ∧ media.tables.control.nat 18 ≠ 1) ∧
    (repeating.unit.service = .media ∧ repeating.tables.control.nat 18 = 1) ∧
    ((pressed media).held = none ∧ ((pressed media).menus.get .a).keys.get .up = ⟨true, 0⟩) ∧
    (let runs (x : Bool) : State := { media with
       menus := media.menus.set .a { media.menus.a with keys := PerKey.all ⟨x, 19⟩ } }
     ((runs false).menus.get .a).keys.get .up = ⟨false, 19⟩ ∧ ((runs true).menus.get .a).keys.get .up = ⟨true, 19⟩ ∧
       19 < 20 ∧ 0 + 19 < 20) ∧
    (asks media [11, 1, 6]).takes .key (req [11, 1, 6]) [] ∧
    ((media.menus.get .a).repeats.get .up = none ∧ (media.menus.get .a).timeout = none) ∧
    (((pressed repeating).menus.get .a).repeats.get .up ≠ none ∧
      ((pressed repeating).menus.get .a).keys.get .up = ⟨true, 0⟩) ∧
    (((pressed media).menus.get .a).repeats.get .up ≠ none ∧ ((pressed media).menus.get .a).timeout ≠ none) :=
  ⟨by decide, by decide, by decide, by decide, by decide, asks_takes _ _ _ (by decide), by decide, by decide, by decide⟩

theorem test_witness_MenuAndBackKeys :
    ((media.menus.get .a).stack = [] ∧ (media.tables.control.write 13 32).nat 13 = 32 ∧
      (media.tables.control.write 13 31).nat 13 < 32) ∧ ((menuA 0).menus.get .a).stack ≠ [] ∧
    (asks media [12, 0, 32]).takes .openPage (req [12, 0, 32]) [] ∧ 32 ≤ (req [12, 0, 32]).arg 1 ∧
    (asks (opened media (List.replicate 6 ⟨1, none⟩)) [12, 0, 31]).takes .openPage (req [12, 0, 31]) [] ∧
    (req [12, 0, 31]).arg 1 < 32 ∧ 6 ≤ (List.replicate 6 (⟨1, none⟩ : PageEntry)).length ∧
    (List.replicate 5 (⟨1, none⟩ : PageEntry)).length < 6 :=
  ⟨by decide, by decide, asks_takes _ _ _ (by decide), by decide, asks_takes _ _ _ (by decide), by decide, by decide,
    by decide⟩

/-- Section 8.10: from position 0 the item at 2 is the next enabled one; above 2 there is none. -/
theorem test_witness_UpDownMovesHighlight :
    let s := menuA 0
    let p := pageRecord s.tables.pages 2
    let enabled (i : Nat) := decide (i < p.count) && itemEnabled s.tables.items ((p.first + i) % 256)
    (media.menus.get .a).stack = [] ∧ (s.menus.get .a).stack = ⟨2, some 0⟩ :: [] ∧ p.count = 3 ∧
    (enabled 2 = true ∧ enabled 1 = false ∧ enabled 0 = true) := by decide +kernel

/-- Seat A of section 8.10 with its item 20 replaced by an action. -/
def action (kind arg : Word) (stack : List PageEntry) : State :=
  let s := menuA 0
  opened { s with
    notices := ⟨[], 0⟩
    tables := { s.tables with items := Table.writeFrom s.tables.items 400 [0x8000, kind, arg] } } stack

theorem test_witness_SelectRunsAction :
    let read (s : State) := (itemEnabled s.tables.items 20, s.tables.items.nat 401, s.tables.items.nat 402)
    let one : List PageEntry := [⟨2, some 0⟩]
    (media.menus.get .a).stack = [] ∧ ((action 0 0 one).menus.get .a).stack = ⟨2, some 0⟩ :: [] ∧
    (pageRecord [] 2).count = 0 ∧ 0 < (pageRecord (menuA 0).tables.pages 2).count ∧
    itemEnabled (menuA 0).tables.items 21 = false ∧ read (action 0 0 one) = (true, 0, 0) ∧
    read (action 8 0 one) = (true, 8, 0) ∧ read (action 1 32 one) = (true, 1, 32) ∧ read (action 1 31 one) = (true, 1, 31) ∧
    read (action 2 0 one) = (true, 2, 0) ∧ read (action 3 0 one) = (true, 3, 0) ∧ read (action 4 14 one) = (true, 4, 14) ∧
    read (action 4 15 one) = (true, 4, 15) ∧ read (action 5 0 one) = (true, 5, 0) ∧
    read (action 6 256 one) = (true, 6, 256) ∧ read (action 6 255 one) = (true, 6, 255) ∧
    read (action 7 3 one) = (true, 7, 3) ∧
    (media.tables.control.nat 0 = 1 ∧ (media.tables.control.write 0 0).nat 0 ≠ 1) ∧
    (2 ≤ (menuA 2).notices.records.countP fun n => decide (n.kind = .select)) ∧
    (action 6 255 one).notices.records.length < 16 := by decide +kernel

theorem test_witness_VolumeKeySteps :
    media.tables.mixer.nat 21 = 10 ∧ (media.tables.mixer.write 21 19).nat 21 < 20 ∧
    20 ≤ (media.tables.mixer.write 21 20).nat 21 ∧ (media.tables.mixer.write 21 0).nat 21 = 0 := by decide +kernel

/-- Chime 4 is empty; chime 3 on voice 1; chime 9 suspended; priorities 2 and 3 below level 4; a FREE voice; three voices
with no lower, with a lower retained, and with a lower unretained victim; a full suspend list. -/
theorem test_witness_ChimeRequestSettles :
    let three (a b c : Nat) : ChimeEngine := ⟨⟨some (voice a 0), some (voice b 1), some (voice c 2)⟩, [], [], 0, 3⟩
    let sounds (n : Nat) := decide (n < 32) && !chimeEmpty chimeTable n
    (sounds 4 = false ∧ sounds 32 = false ∧ sounds 3 = true ∧ sounds 9 = true ∧ sounds 20 = true) ∧
    (before1.voices.get .v1 = some (voice 3 1) ∧ before1.level ≤ prioOf chimeTable 3 ∧
      prioOf chimeTable 3 < before5.level) ∧
    before5.waits 9 = true ∧
    ((chimeDesc chimeTable 9).retain = true ∧ (chimeDesc chimeTable 3).retain = false ∧ prioOf chimeTable 9 < 4) ∧
    (resetChimes.level ≤ prioOf chimeTable 3 ∧ resetChimes.lowestFree = some .v0) ∧
    ((three 6 14 20).lowestFree = none ∧ prioOf chimeTable 9 ≤ prioOf chimeTable 14) ∧
    ((three 6 14 20).victim chimeTable = some (.v1, voice 14 1) ∧ (chimeDesc chimeTable 14).retain = true) ∧
    ((three 3 14 20).victim chimeTable = some (.v0, voice 3 0) ∧ prioOf chimeTable 3 < prioOf chimeTable 9) ∧
    3 ≤ (List.replicate 3 (⟨9, .loop, 1, none⟩ : Saved)).length ∧
    (asks up [13, 32]).takes .chime (req [13, 32]) [] ∧ 32 ≤ (req [13, 32]).arg 0 ∧
    ((req [13, 3]).arg 0 < 32 ∧ chimeTable.nat (8 * 3 + 1) ≠ 0) ∧ up.tables.chimes.nat (8 * 3 + 1) = 0 :=
  ⟨by decide +kernel, by decide +kernel, by decide +kernel, by decide +kernel, by decide +kernel, by decide +kernel,
    by decide +kernel, by decide +kernel, by decide, asks_takes _ _ _ (by decide), by decide, by decide +kernel, by decide⟩

theorem test_witness_VictimAndQueueRanking :
    before1.victim chimeTable = some (.v1, voice 3 1) ∧ resetChimes.victim chimeTable = none ∧
    before5.voices.get .v1 = some { voice 3 1 with releasing := true } ∧
    (queueOrdered chimeTable [20, 6, 14] = true ∧ [20, 6, 14].length < 8) ∧
    (queueOrdered chimeTable [20, 6, 14, 9, 3, 0, 1, 2] = true ∧
      [20, 6, 14, 9, 3, 0, 1, 2].length = 8 ∧ [20, 6, 14, 9, 3, 0, 1, 2] = [20, 6, 14, 9, 3, 0, 1] ++ [2] ∧
      prioOf chimeTable 2 < prioOf chimeTable 3 ∧ prioOf chimeTable 4 ≤ prioOf chimeTable 2) := by decide +kernel

theorem test_witness_VoicePlaysToItsEnd :
    let d (n : Nat) := ((chimeDesc chimeTable n).head, (chimeDesc chimeTable n).loop)
    ((voice 3 0).releasing = false ∧ (voice 3 0).due = none ∧ (voice 3 0).phase = .head) ∧ d 3 = (1200, 0) ∧
    d 9 = (480, 9600) ∧ (0 + 1 < 480 ∧ 480 ≤ 479 + 1 ∧ 1200 ≤ 1199 + 1 ∧ 9598 + 1 < 9600 ∧ 9600 ≤ 9599 + 1) ∧
    (let x : Voice := ⟨9, true, .loop, 9599, some 1, 32, 0, none⟩
     x.releasing = true ∧ x.due = none ∧ x.level ≤ 32 ∧ 31 < x.level ∧ x.loops = some 1) := by decide +kernel

def ending (e : VoiceEnd) : ChimeEngine :=
  { before1 with voices := { before1.voices with v1 := some { voice 3 1 with due := some e } } }

theorem test_witness_FreedVoiceTakesCandidate :
    (up.held = none ∧ (ending .natural).firstDue = some (.v1, .natural) ∧ (ending .release).firstDue = some (.v1, .release)) ∧
    before1.firstDue = none ∧
    (before1.suspended.head? = none ∧ before1.queue.head? = none) ∧
    (before5.suspended = ⟨9, .head, 0, some 1⟩ :: [] ∧ prioOf chimeTable 9 < before5.level ∧
      before1.level ≤ prioOf chimeTable 9) ∧
    (let c : ChimeEngine := { before5 with queue := [14] }
     c.queue = 14 :: [] ∧ c.level ≤ prioOf chimeTable 14 ∧ prioOf chimeTable 9 < prioOf chimeTable 14) := by
  decide +kernel

theorem test_witness_AdmissionLevelAndStopChime :
    (before1.level < 4 ∧ 0 < before5.level ∧ before1.voices.get .v0 = some (voice 9 0)) ∧
    ((voice 9 0).releasing = false ∧ prioOf chimeTable 9 < 4 ∧ (chimeDesc chimeTable 9).retain = true ∧
      before1.suspended = []) ∧
    (prioOf chimeTable 3 < 4 ∧ (chimeDesc chimeTable 3).retain = false ∧ 4 ≤ prioOf chimeTable 14) ∧
    (before5.voices.get .v1 = some { voice 3 1 with releasing := true } ∧ resetChimes.voices.get .v0 = none) ∧
    (asks up [14, 31]).takes .stopChime (req [14, 31]) [] :=
  ⟨by decide +kernel, by decide +kernel, by decide +kernel, by decide +kernel, asks_takes _ _ _ (by decide)⟩

theorem test_witness_ReaderFrameStart :
    reader.route = some 0 ∧ reader.picture = .playing ∧ reader.route ≠ none ∧
    ({ reader with picture := .halted, resume := true } : Reader).resume = true ∧
    8 ≤ (full.take 8).length ∧ ¬ 8 ≤ (full.take 7).length := by decide

/-- Display A's raster has not begun a frame, or has ended one; MIRROR view; a full upstream queue; the link DOWN. -/
theorem test_witness_DisplayFrameStartLatches :
    (media.held = none ∧ media.unit.service = .media ∧ media.disp.a.raster = none) ∧
    (displayHeight media.tables.raster .a ≤ 192 ∧ (⟨192, true, true⟩ : Raster).bottom = true) ∧
    ({ media.rear with actual := .mirror } : RearView).actual = .mirror ∧ media.rear.actual ≠ .mirror ∧
    media.link.up = true ∧ media.rear.queue.length < 4 ∧
    4 ≤ (List.replicate 4 (UpPicture.mark .mirror 0 16 16)).length ∧ State.reset.link.up = false := by decide +kernel

theorem test_witness_WindowTopAndBottom :
    let s := playing [⟨0, 1, [], false⟩] reader
    (s.held = none ∧ s.unit.service = .media ∧ s.disp.a.comp = some bank) ∧
    (bank.nat 2 = 2 ∧ bank.nat 2 + bank.nat 4 = 6) ∧
    (let at_ (r : Raster) : State := { s with disp := s.disp.set .a { s.disp.a with raster := some r } }
     let rasters : List Raster := [⟨2, false, false⟩, ⟨6, true, false⟩, ⟨6, false, false⟩, ⟨6, true, true⟩, ⟨2, true, false⟩]
     rasters.map (fun r => ((at_ r).disp.a.raster == some r, (at_ r).disp.a.topDue, (at_ r).disp.a.bottomDue)) =
       [(true, true, false), (true, false, true), (true, false, false), (true, false, false), (true, false, false)]) ∧
    s.disp.a.reader.opened = true ∧ ({ reader with opened := false } : Reader).opened = false ∧
    up.unit.service = .cameraOnly ∧ media.disp.a.raster = none := by decide

theorem test_witness_WindowRowReadsStore :
    let s := playing [⟨0, 1, [px 1], false⟩, ⟨0, 0, [], false⟩] reader
    (0 < 2 ∧ s.disp.a.reader.opened = true ∧ s.disp.a.reader.picture = .playing) ∧
    ({ reader with opened := false } : Reader).opened = false ∧
    (s.formats.p0.height = 16 ∧ 16 ≤ 32 / 2 ∧ ¬ 16 ≤ 31 / 2) ∧
    ((⟨0, 1, [px 1], false⟩ : Slot) ∈ s.disp.a.store ∧ s.disp.a.reader.openTag = 0 ∧ 3 / 2 = 1 ∧
      slotsDistinct s.disp.a.store = true) ∧
    (∀ y ∈ s.disp.a.store, ¬ (y.tag = 0 ∧ y.line = 15)) ∧ 6 + 1 < 8 ∧ 8 ≤ 7 + 1 := by decide

theorem test_witness_ActiveRowComposes :
    let s := playing [] reader
    (s.held = none ∧ s.rowDue .a = some 2 ∧ s.disp.a.comp = some bank) ∧
    (bank.nat 2 ≤ 2 ∧ 2 < bank.nat 2 + bank.nat 4 ∧ ¬ 6 < bank.nat 2 + bank.nat 4) ∧
    (⟨some 1, 2⟩ : Mirror).frame = some 1 ∧ s.mirror.frame = none ∧ media.rowDue .b = none ∧
    (up.unit.service = .cameraOnly ∧ s.unit.service = .media ∧
      [24000, 33000, 48000, 66000][s.tables.raster.nat 0]? = some 24000) ∧
    ((s.screenPins .a 2 3).de = true ∧ 3 = 2 + 1 ∧ (s.screenPins .a 1 3).de = false) := by decide +kernel

theorem test_witness_MenuPanelAndBannerDraw :
    (media.menus.get .a).stack = [] ∧ ((menuA 0).menus.get .a).stack = ⟨2, some 0⟩ :: [] ∧
    (let row : MenuRow := ⟨5, [9]⟩
     [row][15 / 16]? = some row ∧ [row].length ≤ 16 / 16 ∧ row.tiles[15 / 16]? = some 9 ∧ row.tiles.length ≤ 16 / 16) ∧
    (bank.nat 8 = 0 ∧ bank.nat 8 + 256 ≤ 256 ∧ 255 < 256 ∧ 191 < 192 ∧ bank.nat 9 + 192 ≤ 192) ∧
    (bank.nat 10 + 320 ≤ 320 ∧ bank.nat 11 + 16 ≤ 16) ∧ 512 ≤ 512 ∧ 511 < 512 ∧
    ((0x4000 : Word).extractLsb' (2 * (7 - 0 % 8)) 2).toNat ≠ 0 := by decide

theorem test_witness_BlendStaysBetween : 4 ≤ 4 ∧ 3 ≤ 3 := by decide

/-- Decoded by the tests above: a fault, an accepted index, steps within the limit and past it. OFF, the first sample, and
an index value beyond the limit on either side remain. -/
theorem test_witness_FilterSampleDecodes :
    (up.held = none ∧ up.steer.fresh = true ∧ (wheel 0 .off false false false none).steer.fresh = false ∧
      (wheel 0 .off false false false none).steer.state = .off) ∧
    (let t := Table.ofWords 0 [1, 0, 0, 100, 101, 1]
     t.nat 5 = 1 ∧ ((t.nat 3 : Nat) : Int) < t.int 4) ∧
    (let t := Table.ofWords 0 [1, 0, 0, 100, 0xFF9B, 1]
     t.int 4 < -((t.nat 3 : Nat) : Int)) ∧
    ((1536 : Int) < 1536 + 1 ∧ -(1536 : Int) ≤ 1536) := by decide +kernel

def lockedAt (n bad : Nat) : State := { up with camera := { up.camera with
  state := .locked, measured := some n, bad := bad, watch := some 50050, freeRun := none, frame := some ⟨.camera, 0⟩ } }

theorem test_witness_FrameSyncFollowsCamera :
    let good (n : Nat) := decide (up.camera.latched.nat 1 ≤ n + 4 ∧ n ≤ up.camera.latched.nat 1 + 4)
    (up.held = none ∧ up.camera.state = .noSignal ∧ up.camera.measured = none) ∧
    (good 746 = true ∧ good 754 = true ∧ good 745 = false ∧ good 755 = false) ∧
    (let c : CameraInput := { up.camera with state := .acquiring, measured := some 746, good := 2 }
     c.state = .acquiring ∧ c.measured = some 746 ∧ 2 ≤ c.good ∧ 1 < 2) ∧
    ((lockedAt 755 1).camera.state = .locked ∧ (lockedAt 755 1).camera.measured = some 755 ∧
      1 ≤ (lockedAt 755 1).camera.bad ∧ (lockedAt 755 0).camera.bad = 0) := by decide +kernel

theorem test_witness_LineSyncAndWatch :
    up.held = none ∧ up.camera.synced = false ∧ up.camera.latched.nat 6 = 1500 ∧ up.camera.watch = none ∧
    ({ up.camera with synced := true } : CameraInput).synced ≠ false ∧ ¬ 1500 < 1500 ∧ 1500 < 1501 ∧
    ((lockedAt 9 0).camera.watch ≠ none ∧ (lockedAt 9 0).camera.state = .locked ∧
      (lockedAt 9 0).camera.lineSeen = false) := by decide +kernel

def camera78 : Table := Table.writeFrom defaultCamera 32 [1, 1, 1]

theorem test_witness_CameraFrameStartActs :
    (up.held = none ∧ (lockedAt 9 0).camera.freeRun = none ∧ up.camera.freeRun ≠ none) ∧
    (descriptorFailure camera78 = none ∧ guideFailure camera78 720 = none ∧ descriptorFailure [] ≠ none) ∧
    ((⟨camera78, defaultCamera, .swapPending⟩ : Group).state = .swapPending ∧ up.tables.camera.state = .idle) ∧
    (let t := (lockedAt 9 0).cameraFrameStart
     t.guide.records.getLast?.isSome = true ∧ t.rear.actual ≠ .camera) ∧
    (let s : State := { (lockedAt 9 0) with
       rear := { up.rear with autocam := true, reverse := .on, actual := .camera } }
     s.cameraFrameStart.rear.actual = .camera ∧ s.link.up = true ∧ s.rear.queue.length < 4) := by decide +kernel

theorem test_witness_CameraRowsComplete :
    let f (k : RowKind) (n line : Nat) : CameraInput := { (lockedAt 9 0).camera with frame := some ⟨k, n⟩, line := line }
    (up.held = none ∧ (f .camera 3 744).line = (f .camera 3 744).latched.nat 3 + 719 ∧
      719 < (f .camera 3 744).latched.nat 5 ∧ 3 ≤ 719) ∧
    ((f .fill 719 0).frame = some ⟨.fill, 719⟩ ∧ (f .generated 719 0).frame = some ⟨.generated, 719⟩) ∧
    (up.camera.rowDue = none ∧ up.camera.frame = none) ∧ (f .fill 720 0).latched.nat 5 ≤ 720 := by decide +kernel

theorem test_witness_RowDrawnGoesUpstream :
    let row : CameraRow := ⟨4, 464, .camera, [px 1]⟩
    let r : GuideRecord := ⟨4, guide78, 1, 720, true, false, true, true, [], []⟩
    (up.held = none ∧ up.camera.buffer = [] ∧ [row] = row :: []) ∧
    ((⟨4, 0⟩ : FlaggedFrame).frame = row.frame ∧ (⟨5, 0⟩ : FlaggedFrame).frame ≠ row.frame) ∧
    (r ∈ [{ r with frame := 3 }, r] ∧ r.frame = row.frame ∧
      ∀ x ∈ [{ r with frame := 3 }, r], x.frame = row.frame → x = r) ∧
    (∀ x ∈ [{ r with frame := 3 }], x.frame ≠ row.frame) ∧
    (row.kind = .camera ∧ r.valid = true ∧ r.fields.nat 35 ≤ row.number ∧ row.number ≤ r.fields.nat 36 ∧
      row.pixels[0]? = some (px 1)) ∧ (463 < r.fields.nat 35 ∧ r.fields.nat 36 < 705) ∧
    (up.link.up = true ∧ up.rear.queue.length < 4 ∧ State.reset.link.up = false) := by decide +kernel

theorem test_witness_GuideShapeFollowsCount :
    2 ≤ guide78.nat 37 ∧
    (List.range 16).all (fun j => decide (guide78.int (54 + j) < guide78.int (54 + (j + 1)))) = true ∧
    (-1024 : Int) ≤ guide78.int 54 ∧ guide78.int (54 + (guide78.nat 37 - 1)) ≤ 1024 ∧
    (7 + 1 < guide78.nat 37 ∧ guide78.int 54 < -40 ∧ guide78.int (54 + 7) ≤ -40 ∧ -40 < guide78.int (54 + (7 + 1))) ∧
    (keyAndWeight guide78 (-2000) = (0, none) ∧ keyAndWeight guide78 1024 = (16, none) ∧
      keyAndWeight guide78 (-40) = (7, some 176)) := by decide +kernel

theorem test_witness_GuideLinesCover :
    (1 ≤ 30 ∧ 30 % 2 = 0 ∧ 7 < 8 ∧ 29 < 30) ∧ guide78.nat 35 < guide78.nat 36 ∧ guide78.nat 39 ≤ guide78.nat 38 ∧
    (0 ≤ 240 ∧ 240 ≤ guide78.nat 36 - guide78.nat 35) ∧
    (guide78.nat 40 < guide78.nat 41 ∧ 60 ≤ guide78.nat 40 ∧ guide78.nat 40 < 61 ∧ 120 ≤ guide78.nat 41 ∧
      guide78.nat 41 < 121) := by decide +kernel

def outlet (cur : Option Prog) (gain : Nat) : OutletState := ⟨cur, none, gain, 32768, Stereo.silence⟩

/-- Zone A routed to programme 0, with a current source. -/
def hearing (o : OutletState) (r : Ring) : State := { sounding r with
  outlets := ⟨o, outlet none 0, outlet none 0⟩
  tables := { media.tables with route := Table.ofWords 2 [0, 15, 15] } }

theorem test_witness_TickMovesOutlets :
    (up.held = none ∧ (hearing (outlet (some 0) 100) emptyRing).tables.route.read 2 = 0) ∧
    (media.tables.mixer.nat (media.tables.mixer.nat 21) = 16380 ∧ (100 : Nat) < 16380 ∧ 16380 ≤ 16380 ∧ 0 < 64) ∧
    (outlet (some 0) 100).current = some 0 ∧ (outlet (some 1) 0).current ≠ some 0 ∧
    ((chimeDesc chimeTable 6).duck = true ∧ (chimeDesc chimeTable 6).names .cabin = true) ∧
    (reversing .on true).rear.reverse = .on := by decide +kernel

/-- The five cases of a programme at a tick: unclaimed, newly claimed, PRIMING, PLAYING with a frame, and starved. -/
theorem test_witness_TickRunsRings :
    let s (r : Ring) := hearing (outlet (some 0) 100) r
    let claims (r : Ring) := ((s r).sampleTick.outlets.zoneA.current = some 0 : Bool)
    ((s emptyRing).held = none ∧ (s emptyRing).tables.stats.wf = true ∧ (s emptyRing).unit.service = .media ∧
      claims emptyRing = true) ∧
    (media.sampleTick.outlets.zoneA.current ≠ some 0 ∧ (s (ring .priming 1)).rings.p0.state = .priming) ∧
    (s (ring .playing 1)).rings.p0 = ⟨.playing, Stereo.silence :: []⟩ ∧ (s (ring .playing 0)).rings.p0 = ⟨.playing, []⟩ ∧
    (s (ring .playing 0)).sampleTick.rings.p0.state = .priming := by decide +kernel

theorem test_witness_TickMixesWithinRange :
    (media.held = none ∧ media.tables.stats.wf = true) ∧ exec .sampleTick media = .next media.sampleTick ∧
    (outlet (some 1) 32768).sound = true ∧ 32768 ≤ 32768 ∧ ({ up with held := some .pin } : State).held ≠ none ∧
    ((chimeDesc chimeTable 9).names .zoneA = false ∧ (chimeDesc chimeTable 9).names .cabin = true) ∧
    (∀ z, (none : Option Voice) = some z ∨ (none : Option Voice) = some z ∨ some (voice 3 0) = some z → z.level ≤ 32768) := by
  refine ⟨by decide +kernel, rfl, by decide, by decide, by decide, by decide +kernel, fun z h => ?_⟩
  rcases h with h | h | h
  · cases h
  · cases h
  · cases h
    decide

theorem test_witness_CabinTimeAndNotices :
    let n : Notice := ⟨.sound, 1, 2, 0⟩
    up.held = none ∧ up.tables.control.nat 7 = 1 ∧ (up.tables.control.write 7 0).nat 7 ≠ 1 ∧
    (∀ m ∈ ([n] : List Notice), ¬ (m.kind = .sound ∧ m.detail = 0)) ∧ [n] = [] ++ n :: [] ∧
    (⟨[n, ⟨.select, 1, 2, 0⟩], 0⟩ : NoticeQueue).sound = true := by decide

/-- A part in MEDIA with a voice, a ring, a picture and a queued notice satisfies every invariant, as the part after reset
does. -/
def busy : State := { hearing (outlet (some 0) 100) (ring .playing 2) with
  disp := ⟨shown (full.take 3) reader, stoppedDisplay⟩
  notices := ⟨[⟨.sound, 1, 2, 0⟩], 0⟩
  chimes := before1
  tables := { media.tables with chimes := chimeTable }
  pending := [.sampleTick] }

theorem test_witness_StepKeepsTables : busy.tables.fits = true ∧ busy.tables.legal = true ∧ busy.countSound = true := by
  decide +kernel

theorem test_witness_StepKeepsLinkAndView : busy.linkSound = true ∧ busy.viewSound = true := by decide +kernel

theorem test_witness_StepKeepsMediaAtRest : busy.restSound = true ∧ up.restSound = true := by decide +kernel

theorem test_witness_StepKeepsChimesRanked : busy.chimes.sound = true ∧ busy.chimes.admits busy.tables.chimes = true ∧
    queueOrdered busy.tables.chimes busy.chimes.queue = true := by decide +kernel

theorem test_witness_StepKeepsBlocksSound :
    (busy.disp.a.storeSound = true ∧ busy.disp.b.storeSound = true) ∧ busy.holdSound = true ∧
    busy.notices.sound = true ∧ busy.unit.sound = true ∧ busy.camera.sound busy.held.isNone = true ∧
    (menuA 0).menus.a.sound = true ∧ busy.rings.p0.sound = true ∧ busy.outlets.zoneA.sound = true ∧
    step busy = .next { busy with pending := [] }.sampleTick := by
  refine ⟨by decide +kernel, by decide +kernel, by decide +kernel, by decide +kernel, by decide +kernel, by decide +kernel,
    by decide +kernel, by decide +kernel, rfl⟩

end Evaluated

end Sys2Proof.Tests
end

section
/-! The upstream side as one value, what leaves it untouched, and that every step keeps it in order (O57). -/

namespace Sys2Proof.Machine

open Sys2Proof

/-- The part of the state that the upstream invariants speak of: the link, the actual view and the one its inputs give,
the two frame flags, and the queued pictures. -/
structure Upstream where
  link     : LinkPort
  actual   : View
  given    : View
  camFlag  : Option FlaggedFrame
  mirrored : Option Tag
  queue    : List UpPicture

def State.upstream (s : State) : Upstream :=
  ⟨s.link, s.rear.actual, s.rear.viewOf, s.rear.camFlag, s.mirror.frame, s.rear.queue⟩

/-- The upstream side in order, clause by clause (R12, R102, R103, R104). -/
structure Upstream.Sound (u : Upstream) : Prop where
  down   : u.link.up = false → u.link.silence = false ∧ u.link.slot = none ∧ u.queue = []
  up     : u.link.up = true → u.link.silence = true ∧ u.link.seen = true
  view   : u.actual = u.given
  camera : u.camFlag ≠ none → u.actual = .camera
  mirror : u.mirrored ≠ none → u.actual = .mirror
  sends  : ∀ p ∈ u.queue, u.actual.sends p.source = true
  room   : u.queue.length ≤ 4

theorem State.linkSound_iff (s : State) : s.linkSound = true ↔
    (s.link.up = false → s.link.silence = false ∧ s.link.slot = none ∧ s.rear.queue = []) ∧
    (s.link.up = true → s.link.silence = true ∧ s.link.seen = true) := by
  cases h : s.link.up <;> simp [State.linkSound, h, and_assoc]

theorem State.viewSound_iff (s : State) : s.viewSound = true ↔
    s.rear.actual = s.rear.viewOf ∧ (s.rear.camFlag ≠ none → s.rear.actual = .camera) ∧
    (s.mirror.frame ≠ none → s.rear.actual = .mirror) ∧
    (∀ p ∈ s.rear.queue, s.rear.actual.sends p.source = true) ∧ s.rear.queue.length ≤ 4 := by
  simp only [State.viewSound, Bool.and_eq_true, Bool.or_eq_true, decide_eq_true_eq, Option.isNone_iff_eq_none,
    List.all_eq_true, or_iff_not_imp_left, ne_eq, and_assoc]
  rfl

theorem State.upstreamSound_iff (s : State) : s.upstream.Sound ↔ s.linkSound = true ∧ s.viewSound = true := by
  rw [State.linkSound_iff, State.viewSound_iff]
  constructor
  · rintro ⟨down, up, view, camera, mirror, sends, room⟩
    exact ⟨⟨down, up⟩, view, camera, mirror, sends, room⟩
  · rintro ⟨⟨down, up⟩, view, camera, mirror, sends, room⟩
    exact ⟨down, up, view, camera, mirror, sends, room⟩

/-! Updates of other blocks leave the upstream side as it was. -/

@[simp] theorem State.settleEnds_upstream (s : State) : s.settleEnds.upstream = s.upstream := rfl
@[simp] theorem State.tickSources_upstream (s : State) : s.tickSources.upstream = s.upstream := rfl
@[simp] theorem State.advanceVoices_upstream (s : State) : s.advanceVoices.upstream = s.upstream := rfl
@[simp] theorem State.putRow_upstream (s : State) (d : Side) (comp : Table) (row : Option RowSource) (y : Nat) :
    (s.putRow d comp row y).upstream = s.upstream := rfl
@[simp] theorem State.latchMenu_upstream (s : State) (d : Side) : (s.latchMenu d).upstream = s.upstream := rfl
@[simp] theorem State.startBanner_upstream (s : State) (seat : Side) : (s.startBanner seat).upstream = s.upstream := rfl

/-! Picture Ingest and the rings -/

theorem State.fanLine_upstream (s : State) (d : Side) (p : Prog) (tag : Tag) (line : Nat) (pixels : List Rgb) :
    (s.fanLine d p tag line pixels).upstream = s.upstream := by
  unfold State.fanLine State.storeLine
  split
  · simp only
    split <;> rfl
  · rfl

theorem State.pictureLine_upstream (s : State) (p : Prog) (tag : Tag) (line : Nat) (pixels : List Rgb) :
    (s.pictureLine p tag line pixels).upstream = s.upstream := by
  simp only [State.pictureLine, State.fanLine_upstream]

@[simp] theorem State.haltDisplay_upstream (s : State) (d : Side) (p : Prog) :
    (s.haltDisplay d p).upstream = s.upstream := by
  simp only [State.haltDisplay]
  split <;> rfl

@[simp] theorem State.purgeTag_upstream (s : State) (d : Side) (p : Prog) (tag : Tag) :
    (s.purgeTag d p tag).upstream = s.upstream := by
  simp only [State.purgeTag]
  split <;> rfl

@[simp] theorem State.countMalformed_upstream (s : State) (d : Side) (p : Prog) :
    (s.countMalformed d p).upstream = s.upstream := by
  unfold State.countMalformed
  split <;> rfl

theorem State.takeFormat_upstream (s : State) (p : Prog) (w h : Nat) : (s.takeFormat p w h).upstream = s.upstream := by
  simp only [State.takeFormat]
  split
  · rfl
  · simp only [State.haltDisplay_upstream]; rfl

theorem State.takeTag_upstream (s : State) (p : Prog) (tag : Tag) : (s.takeTag p tag).upstream = s.upstream := by
  simp only [State.takeTag]
  split
  · rfl
  · exact (State.purgeTag_upstream _ .b p tag).trans (s.purgeTag_upstream .a p tag)

theorem State.pictureMark_upstream (s : State) (p : Prog) (tag : Tag) (w h : Nat) :
    (s.pictureMark p tag w h).upstream = s.upstream := by
  unfold State.pictureMark
  split
  · rw [State.takeTag_upstream, State.takeFormat_upstream]
  · simp

theorem State.soundArrives_upstream (s : State) (p : Prog) (frames : List Stereo) :
    (s.soundArrives p frames).upstream = s.upstream := by
  simp only [State.soundArrives]
  split
  · rfl
  · split <;> split <;> rfl

theorem State.offerRequest_upstream (s : State) (r : QueuedRequest) : (s.offerRequest r).upstream = s.upstream := by
  unfold State.offerRequest
  split <;> rfl

/-- Past the Link Port no downstream parcel reaches the upstream side. -/
theorem State.dispatch_upstream (s : State) (p : Parcel) : (s.dispatch p).upstream = s.upstream := by
  unfold State.dispatch
  split
  case h_1 => rfl
  case h_2 =>
    split
    · exact s.pictureLine_upstream _ _ _ _
    · rfl
  case h_3 =>
    split
    · exact s.pictureMark_upstream _ _ _ _
    · rfl
  case h_4 =>
    split
    · exact s.soundArrives_upstream _ _
    · rfl
  case h_5 =>
    split
    · rfl
    · exact s.offerRequest_upstream _

theorem State.giveFrame_upstream (s : State) (p : Prog) : (s.giveFrame p).upstream = s.upstream := by
  simp only [State.giveFrame]
  split
  · split <;> rfl
  · rfl

theorem State.mix_upstream (s : State) (f : Quad Stereo) : (s.mix f).upstream = s.upstream := by
  simp [State.upstream]

theorem State.sampleTick_upstream (s : State) : s.sampleTick.upstream = s.upstream := by
  simp only [State.sampleTick, State.advanceVoices_upstream, State.mix_upstream, State.giveFrames,
    State.giveFrame_upstream, State.tickSources_upstream, State.settleEnds_upstream]

/-! Menus and key pins -/

theorem State.menuKey_upstream (s : State) (seat : Side) : (s.menuKey seat).upstream = s.upstream := by
  unfold State.menuKey
  split
  · split <;> rfl
  · rfl

theorem State.moveKey_upstream (s : State) (seat : Side) (find : PageRecord → Table → Option Nat → Option Nat) :
    (s.moveKey seat find).upstream = s.upstream := by
  unfold State.moveKey
  split
  · rfl
  · simp only
    split <;> rfl

theorem State.itemAction_upstream (s : State) (seat : Side) (e : PageEntry) (item : Nat) :
    (s.itemAction seat e item).upstream = s.upstream := by
  simp only [State.itemAction]
  split
  case h_1 => split <;> rfl
  case h_4 => unfold State.routeAction; split <;> rfl
  case h_6 =>
    simp only [State.notifyAction]
    split
    · rfl
    · split <;> rfl
  all_goals rfl

theorem State.selectKey_upstream (s : State) (seat : Side) : (s.selectKey seat).upstream = s.upstream := by
  unfold State.selectKey
  split
  · rfl
  · simp only
    split
    · rfl
    · split
      · exact s.itemAction_upstream _ _ _
      · rfl

theorem State.volumeKey_upstream (s : State) (seat : Side) (up : Bool) :
    (s.volumeKey seat up).upstream = s.upstream := by
  simp only [State.volumeKey, State.startBanner_upstream]
  split <;> split <;> rfl

theorem State.pressKey_upstream (s : State) (seat : Side) (key : Key) :
    (s.pressKey seat key).upstream = s.upstream := by
  have effect : (s.keyEffect seat key).upstream = s.upstream := by
    cases key with
    | menu => exact s.menuKey_upstream seat
    | up => exact s.moveKey_upstream seat upFrom
    | down => exact s.moveKey_upstream seat downFrom
    | select => exact s.selectKey_upstream seat
    | back => rfl
    | volUp => exact s.volumeKey_upstream seat true
    | volDown => exact s.volumeKey_upstream seat false
  exact effect

theorem State.handPress_upstream (s : State) (seat : Side) (key : Key) :
    (s.handPress seat key).upstream = s.upstream := by
  rw [State.handPress, State.pressKey_upstream]
  split <;> rfl

theorem State.keySample_upstream (s : State) (seat : Side) (key : Key) (high : Bool) :
    (s.keySample seat key high).upstream = s.upstream := by
  simp only [State.keySample]
  split
  · rfl
  · split
    · split
      · exact State.handPress_upstream _ _ _
      · rfl
    · rfl

theorem State.keySamples_upstream (s : State) (seat : Side) (key : Key) (samples : List Bool) :
    (samples.foldl (fun s x => s.keySample seat key x) s).upstream = s.upstream := by
  induction samples generalizing s with
  | nil => rfl
  | cons x rest ih => rw [List.foldl_cons, ih, State.keySample_upstream]

/-! Displays -/

theorem State.latchComposition_upstream (s : State) (d : Side) : (s.latchComposition d).upstream = s.upstream := by
  simp only [State.latchComposition]
  split <;> rfl

theorem State.latchRoute_upstream (s : State) (d : Side) : (s.latchRoute d).upstream = s.upstream := by
  simp only [State.latchRoute]
  split <;> rfl

theorem State.windowRow_upstream (s : State) (d : Side) (scale r : Nat) :
    (s.windowRow d scale r).1.upstream = s.upstream := by
  simp only [State.windowRow]
  split
  · rfl
  · split
    · rfl
    · split
      · rfl
      · split <;> rfl

theorem State.readRow_upstream (s : State) (d : Side) (comp : Table) (y : Nat) :
    (s.readRow d comp y).1.upstream = s.upstream := by
  unfold State.readRow
  split
  · rfl
  · exact s.windowRow_upstream _ _ _

theorem State.stopDisplay_upstream (s : State) (d : Side) : (s.stopDisplay d).upstream = s.upstream := by
  simp only [State.stopDisplay]
  split <;> rfl

theorem State.completeGroup_upstream (s : State) (g : GroupId) : (s.completeGroup g).upstream = s.upstream := by
  simp only [State.completeGroup]
  split <;> rfl

/-! Camera rows and syncs -/

theorem State.completeRow_upstream (s : State) (kind : RowKind) (y : Nat) (pixels : List Rgb) :
    (s.completeRow kind y pixels).upstream = s.upstream := by
  unfold State.completeRow State.bufferRow
  split <;> rfl

theorem State.watchLocked_upstream (s : State) : s.watchLocked.upstream = s.upstream := by
  simp only [State.watchLocked]
  split <;> rfl

/-! Steering and table transfers -/

theorem State.setSteer_upstream (s : State) (x : Steering) : (s.setSteer x).upstream = s.upstream := by
  simp only [State.setSteer]
  split <;> rfl

theorem State.readyFor_upstream (s : State) (t : TableId) : (s.readyFor t).upstream = s.upstream := by
  unfold State.readyFor
  split <;> rfl

theorem State.putSteering_upstream (s : State) (i : Nat) (ws : List Word) :
    (s.putSteering i ws).upstream = s.upstream := by
  simp only [State.putSteering]
  split
  · rw [State.setSteer_upstream]; rfl
  · rfl

/-! What reaches the upstream side keeps it in order. -/

section Keeps

variable {s : State}

/-- What leaves the upstream side as it was keeps it in order. -/
theorem State.upstreamSound_congr {t : State} (he : t.upstream = s.upstream) (h : s.upstream.Sound) :
    t.upstream.Sound :=
  he.symm ▸ h

/-- A picture of the actual view's source is taken where there is room, and otherwise only counted. -/
theorem State.offerPicture_upstreamSound (h : s.upstream.Sound) {p : UpPicture}
    (hp : s.rear.actual.sends p.source = true) :
    (s.offerPicture p).upstream.Sound := by
  rcases s.offerPicture_cases p with ⟨-, he⟩ | ⟨hup, hroom, he⟩ | ⟨-, -, he⟩
  · rwa [he]
  · rw [he]
    refine ⟨fun hd => ?_, h.up, h.view, h.camera, h.mirror, fun x hx => ?_, ?_⟩
    · exact absurd (hup.symm.trans hd) (by decide)
    · rcases List.mem_append.mp hx with hx | hx
      · exact h.sends x hx
      · rw [List.mem_singleton.mp hx]; exact hp
    · simp only [State.upstream, List.length_append, List.length_singleton]; omega
  · rwa [he]

/-- The view follows any change of its inputs: the pictures and flags of the old view are gone. -/
theorem State.followView_upstreamSound (h : s.upstream.Sound) (r : RearView) (hq : r.queue = s.rear.queue)
    (hf : r.camFlag = s.rear.camFlag) (ha : r.actual = s.rear.actual) :
    (State.followView { s with rear := r }).upstream.Sound := by
  by_cases hv : r.viewOf = r.actual
  · rw [State.followView_same hv]
    have hu : State.upstream { s with rear := r } = { s.upstream with given := r.viewOf } := by
      simp only [State.upstream, hq, hf, ha]
    rw [hu]
    exact ⟨h.down, h.up, ha.symm.trans hv.symm, h.camera, h.mirror, h.sends, h.room⟩
  · have hu : (State.followView { s with rear := r }).upstream = ⟨s.link, r.viewOf, r.viewOf, none, none, []⟩ := by
      simp only [State.followView, hv, if_false]; rfl
    rw [hu]
    refine ⟨fun hd => ?_, h.up, rfl, fun hn => absurd rfl hn, fun hn => absurd rfl hn, by simp, by simp⟩
    obtain ⟨hsilence, hslot, -⟩ := h.down hd
    exact ⟨hsilence, hslot, rfl⟩

theorem State.refreshView_upstream (s : State) : s.refreshView.upstream = s.followView.upstream := by
  unfold State.refreshView
  split
  · rw [State.followView_same (by assumption)]
  · rfl

theorem State.changeReverse_upstreamSound (h : s.upstream.Sound) (r : ReverseState) (linger : Option Nat) :
    (s.changeReverse r linger).upstream.Sound :=
  State.followView_upstreamSound h { s.rear with reverse := r, linger := linger } rfl rfl rfl

theorem State.evalReverse_upstreamSound (h : s.upstream.Sound) : s.evalReverse.upstream.Sound := by
  unfold State.evalReverse
  split
  · exact State.changeReverse_upstreamSound h .on none
  · exact State.changeReverse_upstreamSound h .on none
  · split
    · exact State.changeReverse_upstreamSound h .linger _
    · exact State.changeReverse_upstreamSound h .off none
  · exact h

theorem State.reverseSample_upstreamSound (h : s.upstream.Sound) (x : Bool) : (s.reverseSample x).upstream.Sound := by
  simp only [State.reverseSample]
  split
  · exact h
  · exact State.evalReverse_upstreamSound
      (s := { s with rear := { s.rear with reversePin := s.rear.reversePin.sample x } }) h

theorem State.reverseSamples_upstreamSound (h : s.upstream.Sound) (samples : List Bool) :
    (samples.foldl State.reverseSample s).upstream.Sound := by
  induction samples generalizing s with
  | nil => exact h
  | cons x rest ih => exact ih (State.reverseSample_upstreamSound h x)

theorem State.calSamples_upstream (s : State) (samples : List Bool) :
    (samples.foldl State.calSample s).upstream = s.upstream := by
  induction samples generalizing s with
  | nil => rfl
  | cons x rest ih =>
    rw [List.foldl_cons, ih]
    simp only [State.calSample]
    split <;> rfl

/-! The link -/

theorem State.linkAlive_upstreamSound (h : s.upstream.Sound) : s.linkAlive.upstream.Sound := by
  have hu : s.linkAlive.upstream = { s.upstream with
      link := { s.link with up := true, silence := true, seen := s.link.seen || !s.link.up } } := by
    simp only [State.linkAlive]
    split <;> rfl
  have hseen : (s.link.seen || !s.link.up) = true := by
    cases hup : s.link.up
    · simp
    · obtain ⟨-, hs⟩ := h.up hup
      have hs' : s.link.seen = true := hs
      simp [hs']
  rw [hu]
  exact ⟨fun hd => absurd hd (by simp), fun _ => ⟨rfl, hseen⟩, h.view, h.camera, h.mirror, h.sends, h.room⟩

theorem State.receive_upstreamSound (h : s.upstream.Sound) (words : List Word) : (s.receive words).upstream.Sound := by
  unfold State.receive
  split
  · exact h
  · exact h
  · rw [State.dispatch_upstream]; exact State.linkAlive_upstreamSound h

theorem State.linkDown_upstreamSound (h : s.upstream.Sound) : s.linkDown.upstream.Sound := by
  have hu : s.linkDown.upstream = { s.upstream with
      link := { s.link with up := false, silence := false, slot := none }, queue := [] } := by
    cases hslot : s.link.slot <;> simp [State.linkDown, State.emptySlot, State.upstream, RearView.viewOf, hslot]
  rw [hu]
  exact ⟨fun _ => ⟨rfl, rfl, rfl⟩, fun hup => absurd hup (by simp), h.view, h.camera, h.mirror, by simp, by simp⟩

/-- Less may wait than before: fewer pictures, no reply. -/
theorem Upstream.Sound.fewer {u : Upstream} (h : u.Sound) {queue : List UpPicture} (hq : queue <:+ u.queue)
    {slot : Option Reply} (hs : slot = u.link.slot ∨ slot = none) (sending : List Word) :
    Upstream.Sound { u with link := { u.link with slot := slot, sending := sending }, queue := queue } := by
  refine ⟨fun hd => ?_, h.up, h.view, h.camera, h.mirror, fun p hp => h.sends p (hq.subset hp), ?_⟩
  · obtain ⟨hsilence, hslot, hempty⟩ := h.down hd
    refine ⟨hsilence, ?_, List.suffix_nil.mp (hempty ▸ hq)⟩
    rcases hs with hs | hs
    · exact hs.trans hslot
    · exact hs
  · exact hq.length_le.trans h.room

theorem State.beginParcel_upstreamSound (h : s.upstream.Sound) : s.beginParcel.upstream.Sound := by
  simp only [State.beginParcel]
  split
  · exact h.fewer List.suffix_rfl (.inl rfl) _
  · split
    next p rest hq => exact h.fewer (by rw [State.upstream, hq]; exact List.suffix_cons p rest) (.inl rfl) _
    next =>
      split
      next r hr =>
        have he : s.emptySlot = { s with link := { s.link with slot := none }, unit := s.unit.report r } := by
          simp only [State.emptySlot, hr]
        rw [he]
        exact h.fewer List.suffix_rfl (.inr rfl) _
      next =>
        split
        · exact h.fewer List.suffix_rfl (.inl rfl) _
        · exact h.fewer List.suffix_rfl (.inl rfl) _

/-- A reply goes to the slot of a link that is UP only. -/
theorem State.handOff_upstreamSound (h : s.upstream.Sound) (r : Reply) : (s.handOff r).upstream.Sound := by
  unfold State.handOff
  split
  next hup =>
    exact ⟨fun hd => absurd (hup.symm.trans hd) (by decide), h.up, h.view, h.camera, h.mirror, h.sends, h.room⟩
  next => exact h

theorem State.finish_upstreamSound (h : s.upstream.Sound) (r : QueuedRequest) (code : ReplyCode) (data : List Word)
    (k : Option RestartKind) : (s.finish r code data k).upstream.Sound := by
  unfold State.finish
  split
  · split
    · exact State.handOff_upstreamSound h _
    · exact h
  · split <;> exact h

/-! Camera frames -/

theorem State.swapCameraBank_upstreamSound (h : s.upstream.Sound) : s.swapCameraBank.upstream.Sound := by
  simp only [State.swapCameraBank]
  split
  · rw [State.refreshView_upstream]
    exact State.followView_upstreamSound
      (s := State.offerNotice (s.setGroup .camera s.tables.camera.frameStart) _ _ _) h { s.rear with bankLoaded := true } rfl rfl rfl
  · exact h

theorem State.cameraMark_upstreamSound (h : s.upstream.Sound) : s.cameraMark.upstream.Sound := by
  unfold State.cameraMark
  split
  next hcam =>
    apply State.offerPicture_upstreamSound
    · exact ⟨h.down, h.up, h.view, fun _ => hcam, h.mirror, h.sends, h.room⟩
    · simp only [hcam]; rfl
  next => exact ⟨h.down, h.up, h.view, fun hn => absurd rfl hn, h.mirror, h.sends, h.room⟩

theorem State.cameraFrameStart_upstreamSound (h : s.upstream.Sound) : s.cameraFrameStart.upstream.Sound :=
  State.cameraMark_upstreamSound (s := s.swapCameraBank.beginCameraFrame s.tables.camera.swaps)
    (State.swapCameraBank_upstreamSound h)

theorem State.frameSync_upstreamSound (h : s.upstream.Sound) (lineToo : Bool) :
    (s.frameSync lineToo).upstream.Sound := by
  have started : ∀ t : State, t.upstream = s.upstream → t.cameraFrameStart.startWatch.upstream.Sound :=
    fun t ht => State.cameraFrameStart_upstreamSound (State.upstreamSound_congr ht h)
  simp only [State.frameSync]
  split
  · exact h
  · simp only [State.syncAcquiring]
    split
    · exact h
    · exact h
    · split
      · exact started _ rfl
      · exact h
  · simp only [State.syncLocked]
    split
    · split
      · exact h
      · exact started _ rfl
    · exact started _ rfl
    · exact started _ rfl

/-- Only a row of the flagged frame goes upstream, and the flag stands in the camera view alone. -/
theorem State.sendRow_upstreamSound (h : s.upstream.Sound) (row : CameraRow) : (s.sendRow row).upstream.Sound := by
  unfold State.sendRow
  split
  next f hf =>
    split
    · have hcam : s.rear.actual = .camera := h.camera (by simp [State.upstream, hf])
      exact State.offerPicture_upstreamSound h (by rw [hcam]; rfl)
    · exact h
  next => exact h

/-! Mirrored frames -/

theorem State.latchMirror_upstreamSound (h : s.upstream.Sound) (d : Side) : (s.latchMirror d).upstream.Sound := by
  unfold State.latchMirror
  split
  · exact h
  · split
    next hmir =>
      apply State.offerPicture_upstreamSound
      · exact ⟨h.down, h.up, h.view, h.camera, fun _ => hmir, h.sends, h.room⟩
      · simp only [hmir]; rfl
    next => exact ⟨h.down, h.up, h.view, h.camera, fun hn => absurd rfl hn, h.sends, h.room⟩

theorem State.displayFrameStart_upstreamSound (h : s.upstream.Sound) (d : Side) :
    (s.displayFrameStart d).upstream.Sound := by
  unfold State.displayFrameStart
  refine State.latchMirror_upstreamSound (State.upstreamSound_congr ?_ h) d
  rw [State.latchMenu_upstream, State.latchRoute_upstream, State.latchComposition_upstream]

/-- Only display A's rows of a mirrored frame go upstream, and the mirror flag stands in the mirror view alone. -/
theorem State.mirrorRow_upstreamSound (h : s.upstream.Sound) (d : Side) (y : Nat) :
    (s.mirrorRow d y).upstream.Sound := by
  unfold State.mirrorRow
  split
  next tag hf =>
    have hmir : s.rear.actual = .mirror := h.mirror (by simp [State.upstream, hf])
    exact State.offerPicture_upstreamSound h (by rw [hmir]; rfl)
  next => exact h

theorem State.activeRow_upstreamSound (h : s.upstream.Sound) (d : Side) (comp : Table) (y : Nat) :
    (s.activeRow d comp y).upstream.Sound := by
  unfold State.activeRow
  refine State.mirrorRow_upstreamSound (State.upstreamSound_congr ?_ h) d y
  rw [State.putRow_upstream, State.readRow_upstream]

/-! Requests -/

theorem State.putWords_upstreamSound (h : s.upstream.Sound) (t : TableId) (i : Nat) (ws : List Word) :
    (s.putWords t i ws).upstream.Sound := by
  cases t
  case control =>
    simp only [State.putWords, State.putControl]
    split
    · apply State.evalReverse_upstreamSound
      exact h
    · exact h
  case steering => exact State.upstreamSound_congr (s.putSteering_upstream i ws) h
  all_goals exact h

theorem State.put_upstreamSound (h : s.upstream.Sound) (ws : List Word) : (s.put ws).state.upstream.Sound := by
  have hready : (s.readyFor s.unit.pointer.table).upstream.Sound := State.upstreamSound_congr (s.readyFor_upstream _) h
  simp only [State.put]
  split
  · exact hready
  · split
    · split
      · exact hready
      · exact State.putWords_upstreamSound hready _ _ _
    · split
      · exact hready
      · exact State.putWords_upstreamSound hready _ _ _

theorem RequestName.body_upstreamSound (n : RequestName) (r : QueuedRequest) (h : s.upstream.Sound) :
    (n.body r s).state.upstream.Sound := by
  cases n
  case point =>
    simp only [RequestName.body, pointBody]
    split
    · exact h
    · split <;> exact h
  case put => exact State.put_upstreamSound h _
  case get =>
    simp only [RequestName.body, getBody, State.get]
    split <;> exact h
  case commit =>
    simp only [RequestName.body, commitBody, State.commit]
    split
    · exact h
    · split
      · exact h
      · split <;> exact h
  case start =>
    simp only [RequestName.body, startBody]
    split <;> exact h
  case restart => exact h
  case vehicle =>
    apply State.evalReverse_upstreamSound
    exact h
  case view =>
    exact State.upstreamSound_congr (State.refreshView_upstream _)
      (State.followView_upstreamSound h { s.rear with requested := viewOfArg (r.arg 0) } rfl rfl rfl)
  case hold => exact h
  case release =>
    simp only [RequestName.body, releaseBody]
    split <;> exact h
  case key => exact State.upstreamSound_congr (s.pressKey_upstream _ _) h
  case openPage =>
    simp only [RequestName.body, openPageBody]
    split <;> exact h
  case chime =>
    simp only [RequestName.body, chimeBody]
    split <;> exact h
  case stopChime => exact h
  case resume =>
    simp only [RequestName.body, resumeBody]
    split <;> exact h

theorem State.serve_upstreamSound (h : s.upstream.Sound) (n : RequestName) : (s.serve n n.body).upstream.Sound := by
  unfold State.serve
  split
  · exact h
  · split
    · refine State.finish_upstreamSound ?_ _ _ _ _
      unfold State.answer
      split
      · exact h
      · exact n.body_upstreamSound _ (s := s.dequeue) h
    · exact h

/-! Resets and restarts -/

/-- Every block at its reset value, whatever the straps: the link is DOWN and no view is sent. -/
theorem State.blank_upstreamSound (held : Option ResetKind) (strap : BitVec 4) (autocam : Bool) (cause : ResetCause)
    (sending : List Word) (freeRun : Option Nat) (outs : PerOutlet Stereo) (pending : List Instr) :
    (State.blank held strap autocam cause sending freeRun outs pending).upstream.Sound := by
  have hu : (State.blank held strap autocam cause sending freeRun outs pending).upstream =
      ⟨resetLink strap sending, .none, .none, none, none, []⟩ := by cases autocam <;> rfl
  rw [hu]
  exact ⟨fun _ => ⟨rfl, rfl, rfl⟩, fun hup => absurd hup (by simp [resetLink]), rfl, fun hn => absurd rfl hn,
    fun hn => absurd rfl hn, by simp, by simp⟩

theorem State.mediaRestart_upstreamSound (h : s.upstream.Sound) : s.mediaRestart.upstream.Sound := by
  have hu : s.mediaRestart.upstream = { s.upstream with mirrored := none } := by
    simp only [State.mediaRestart, State.stopDisplay_upstream, State.completeGroup_upstream]; rfl
  rw [hu]
  exact ⟨h.down, h.up, h.view, h.camera, fun hn => absurd rfl hn, h.sends, h.room⟩

/-! Every command -/

/-- An event that keeps the upstream side in order does so whether a reset holds the part or not. -/
theorem whenLive_upstreamSound {t : State} {f : State → State} (ht : whenLive s f = .next t) (h : s.upstream.Sound)
    (hf : (f s).upstream.Sound) : t.upstream.Sound := by
  cases ht
  split
  · exact hf
  · exact h

theorem exec_upstreamSound {t : State} (h : s.upstream.Sound) (c : Instr) (ht : exec c s = .next t) :
    t.upstream.Sound := by
  cases c
  all_goals simp only [exec] at ht
  case powerOnReset => cases ht; exact State.blank_upstreamSound ..
  case pinReset => cases ht; exact State.blank_upstreamSound ..
  case resetRelease stn autocam =>
    cases ht
    split
    · exact State.blank_upstreamSound ..
    · exact h
  case fullRestart =>
    refine whenLive_upstreamSound ht h ?_
    split
    · exact State.blank_upstreamSound ..
    · exact h
  case mediaRestart =>
    refine whenLive_upstreamSound ht h ?_
    split
    · exact State.mediaRestart_upstreamSound h
    · exact h
  case discardedParcel words => exact whenLive_upstreamSound ht h (State.receive_upstreamSound h words)
  case fill words => exact whenLive_upstreamSound ht h (State.receive_upstreamSound h words)
  case pictureLine words => exact whenLive_upstreamSound ht h (State.receive_upstreamSound h words)
  case pictureMark words => exact whenLive_upstreamSound ht h (State.receive_upstreamSound h words)
  case sound words => exact whenLive_upstreamSound ht h (State.receive_upstreamSound h words)
  case request words => exact whenLive_upstreamSound ht h (State.receive_upstreamSound h words)
  case silenceTimerExpiry =>
    refine whenLive_upstreamSound ht h ?_
    split
    · exact State.linkDown_upstreamSound h
    · exact h
  case parcelEnd => exact whenLive_upstreamSound ht h (State.beginParcel_upstreamSound h)
  case replyHandoff =>
    refine whenLive_upstreamSound ht h ?_
    split
    · exact State.handOff_upstreamSound h _
    · exact h
  case point => exact whenLive_upstreamSound ht h (State.serve_upstreamSound h .point)
  case put => exact whenLive_upstreamSound ht h (State.serve_upstreamSound h .put)
  case get => exact whenLive_upstreamSound ht h (State.serve_upstreamSound h .get)
  case commit => exact whenLive_upstreamSound ht h (State.serve_upstreamSound h .commit)
  case start => exact whenLive_upstreamSound ht h (State.serve_upstreamSound h .start)
  case restart => exact whenLive_upstreamSound ht h (State.serve_upstreamSound h .restart)
  case vehicle => exact whenLive_upstreamSound ht h (State.serve_upstreamSound h .vehicle)
  case view => exact whenLive_upstreamSound ht h (State.serve_upstreamSound h .view)
  case hold => exact whenLive_upstreamSound ht h (State.serve_upstreamSound h .hold)
  case release => exact whenLive_upstreamSound ht h (State.serve_upstreamSound h .release)
  case key => exact whenLive_upstreamSound ht h (State.serve_upstreamSound h .key)
  case openPage => exact whenLive_upstreamSound ht h (State.serve_upstreamSound h .openPage)
  case chime => exact whenLive_upstreamSound ht h (State.serve_upstreamSound h .chime)
  case stopChime => exact whenLive_upstreamSound ht h (State.serve_upstreamSound h .stopChime)
  case resume => exact whenLive_upstreamSound ht h (State.serve_upstreamSound h .resume)
  case displayFrameStart d =>
    refine whenLive_upstreamSound ht h ?_
    split
    · exact State.displayFrameStart_upstreamSound h d
    · exact h
  case windowTop d =>
    refine whenLive_upstreamSound ht h ?_
    split <;> exact h
  case activeRow d =>
    refine whenLive_upstreamSound ht h ?_
    split
    · exact State.activeRow_upstreamSound h d _ _
    · exact h
  case windowBottom d =>
    refine whenLive_upstreamSound ht h ?_
    split <;> exact h
  case filterSample a b ix => exact whenLive_upstreamSound ht h (State.upstreamSound_congr (s.setSteer_upstream _) h)
  case frameSync hs => exact whenLive_upstreamSound ht h (State.frameSync_upstreamSound h _)
  case lineSync clocks =>
    refine whenLive_upstreamSound ht h ?_
    split <;> exact h
  case syncWatchExpiry =>
    refine whenLive_upstreamSound ht h ?_
    split
    · exact h
    · split
      · exact State.upstreamSound_congr s.watchLocked_upstream h
      · exact h
      · exact h
  case freeRunExpiry =>
    refine whenLive_upstreamSound ht h ?_
    split
    · exact h
    · exact State.cameraFrameStart_upstreamSound h
  case cameraRow pixels =>
    refine whenLive_upstreamSound ht h ?_
    split
    · exact State.upstreamSound_congr (s.completeRow_upstream ..) h
    · exact h
  case fillRow =>
    refine whenLive_upstreamSound ht h ?_
    split
    · exact State.upstreamSound_congr (s.completeRow_upstream ..) h
    · exact h
  case generatedRow =>
    refine whenLive_upstreamSound ht h ?_
    split
    · exact State.upstreamSound_congr (s.completeRow_upstream ..) h
    · exact h
  case rowDrawn =>
    refine whenLive_upstreamSound ht h ?_
    split
    · exact h
    · apply State.sendRow_upstreamSound
      exact h
  case reverseLevelChange samples => exact whenLive_upstreamSound ht h (State.reverseSamples_upstreamSound h samples)
  case calLevelChange samples =>
    exact whenLive_upstreamSound ht h (State.upstreamSound_congr (s.calSamples_upstream samples) h)
  case lingerExpiry =>
    refine whenLive_upstreamSound ht h ?_
    split
    · exact State.changeReverse_upstreamSound h .off none
    · exact h
  case press seat key samples =>
    exact whenLive_upstreamSound ht h (State.upstreamSound_congr (s.keySamples_upstream seat key samples) h)
  case keyRelease seat key samples =>
    exact whenLive_upstreamSound ht h (State.upstreamSound_congr (s.keySamples_upstream seat key samples) h)
  case repeatTimerExpiry seat key =>
    refine whenLive_upstreamSound ht h ?_
    split
    · exact h
    · split
      · exact State.upstreamSound_congr (State.pressKey_upstream _ seat key) h
      · exact h
  case timeoutExpiry seat =>
    refine whenLive_upstreamSound ht h ?_
    split <;> exact h
  case bannerExpiry seat => exact whenLive_upstreamSound ht h h
  case sampleTick => exact whenLive_upstreamSound ht h (State.upstreamSound_congr s.sampleTick_upstream h)
  case voiceNaturalEnd =>
    refine whenLive_upstreamSound ht h ?_
    split <;> exact h
  case releaseEnd =>
    refine whenLive_upstreamSound ht h ?_
    split <;> exact h
  case cabinTimeTick => exact whenLive_upstreamSound ht h h
  case unknownRequestName =>
    refine whenLive_upstreamSound ht h ?_
    split
    · exact h
    · split
      · exact State.finish_upstreamSound (s := s.dequeue) h _ _ _ _
      · exact h

theorem step_upstreamSound {t : State} (h : s.upstream.Sound) (ht : step s = .next t) : t.upstream.Sound := by
  unfold step at ht
  split at ht
  · cases ht; exact h
  next c rest _ => exact exec_upstreamSound (s := { s with pending := rest }) h c ht

end Keeps

/-- Settles O57: every command keeps the upstream side in order, and a step is one command or none. -/
theorem stepKeepsLinkAndView : Obligations.StepKeepsLinkAndView := by
  intro s t hlink hview ht
  exact t.upstreamSound_iff.mp (step_upstreamSound (s.upstreamSound_iff.mpr ⟨hlink, hview⟩) ht)

end Sys2Proof.Machine
end

section
/-! The downstream side of the Link Port: the tests of R6, what a valid parcel does, and the admission of requests
(O5, O6, O10). -/

namespace Sys2Proof.Machine

open Sys2Proof

/-! The tests of R6 -/

theorem classify_short {words : List Word} (h : words.length < 4) : classify words = .checkFail := by
  match words, h with
  | [], _ => rfl
  | [_], _ => rfl
  | [_, _], _ => rfl
  | [_, _, _], _ => rfl
  | _ :: _ :: _ :: _ :: _, h => simp at h; omega

/-- With a header, a payload and a last word, the last word is judged as the check word, then the body. -/
theorem classify_whole (w0 w1 w2 c : Word) (payload : List Word) :
    classify (w0 :: w1 :: w2 :: (payload ++ [c])) =
      if checkWord (w0 :: w1 :: w2 :: payload) ≠ c then .checkFail else receiveBody (parseHeader w0 w1 w2) payload := by
  obtain ⟨x, xs, hx⟩ := List.exists_cons_of_ne_nil (show payload ++ [c] ≠ [] by simp)
  have hinit : (x :: xs).dropLast = payload := by rw [← hx, List.dropLast_concat]
  have hlast : (x :: xs).getLastD 0 = c := by rw [← hx, List.getLastD_concat]
  rw [hx]
  simp only [classify, hinit, hlast]

theorem classify_parcelWords (w0 w1 w2 : Word) (payload : List Word) :
    classify (parcelWords w0 w1 w2 payload) = receiveBody (parseHeader w0 w1 w2) payload := by
  rw [parcelWords, classify_whole, if_neg (by simp)]

/-- Tables 1-1 and 1-3 as the receiver reads them: a defined kind with a count it allows. -/
theorem downstreamLegal_iff (kind n : Nat) :
    downstreamLegal kind n ↔ ∃ k, downKind kind = some k ∧ countLegal k n = true := by
  match kind with
  | 0 | 1 | 2 | 3 | 4 => simp [downstreamLegal, downKind, countLegal]
  | m + 5 => simp [downstreamLegal, downKind]

theorem receiveBody_badParcel {h : Header} {payload : List Word}
    (hbad : h.count ≠ payload.length ∨ ¬ downstreamLegal h.kind payload.length) :
    receiveBody h payload = .badParcel := by
  unfold receiveBody
  split
  · rfl
  next hcount =>
    split
    · rfl
    next k hk =>
      refine if_neg fun hlegal => ?_
      rcases hbad with hbad | hbad
      · exact hcount hbad
      · exact hbad ((downstreamLegal_iff _ _).mpr ⟨k, hk, hlegal⟩)

/-- A parcel that passes the five tests is valid, with its kind, header and payload. -/
theorem classify_valid {w0 w1 w2 : Word} {payload : List Word} {k : DownKind} (hk : downKind (kindField w0) = some k)
    (hcount : countField w1 = payload.length) (hlegal : downstreamLegal (kindField w0) payload.length) :
    classify (parcelWords w0 w1 w2 payload) = .valid ⟨k, parseHeader w0 w1 w2, payload⟩ := by
  obtain ⟨k', hk', hlen⟩ := (downstreamLegal_iff _ _).mp hlegal
  obtain rfl : k = k' := Option.some.inj (hk.symm.trans hk')
  have hc : (parseHeader w0 w1 w2).count = payload.length := hcount
  have hkind : downKind (parseHeader w0 w1 w2).kind = some k := hk
  rw [classify_parcelWords, receiveBody, if_neg (not_not_intro hc), hkind]
  exact if_pos hlen

/-! Taking a parcel -/

section Receive

variable {s : State}

theorem State.receive_checkFail {words : List Word} (h : classify words = .checkFail) :
    s.receive words = s.bump 0 1 := by
  rw [State.receive, h]; rfl

theorem State.receive_badParcel {words : List Word} (h : classify words = .badParcel) :
    s.receive words = s.bump 1 1 := by
  rw [State.receive, h]; rfl

theorem State.receive_valid {words : List Word} {p : Parcel} (h : classify words = .valid p) :
    s.receive words = s.linkAlive.dispatch p := by
  rw [State.receive, h]

/-- The six parcel commands act on their words alike (log 5). -/
theorem exec_discardedParcel (h : s.held = none) (words : List Word) :
    exec (.discardedParcel words) s = .next (s.receive words) := whenLive_live h fun s => s.receive words
theorem exec_fill (h : s.held = none) (words : List Word) : exec (.fill words) s = .next (s.receive words) :=
  whenLive_live h fun s => s.receive words
theorem exec_pictureLine (h : s.held = none) (words : List Word) :
    exec (.pictureLine words) s = .next (s.receive words) := whenLive_live h fun s => s.receive words
theorem exec_pictureMark (h : s.held = none) (words : List Word) :
    exec (.pictureMark words) s = .next (s.receive words) := whenLive_live h fun s => s.receive words
theorem exec_sound (h : s.held = none) (words : List Word) : exec (.sound words) s = .next (s.receive words) :=
  whenLive_live h fun s => s.receive words
theorem exec_request (h : s.held = none) (words : List Word) : exec (.request words) s = .next (s.receive words) :=
  whenLive_live h fun s => s.receive words

/-! The link comes alive (R10, R11) -/

theorem State.linkAlive_of_up (h : s.link.up = true) :
    s.linkAlive = { s with link := { s.link with silence := true } } := by
  simp only [State.linkAlive, h]
  simp

theorem State.linkAlive_of_first (h : s.link.up = false) (hseen : s.link.seen = false) :
    s.linkAlive = { s with link := { s.link with up := true, silence := true, seen := true } } := by
  simp [State.linkAlive, h, hseen]

theorem State.linkAlive_of_recovery (h : s.link.up = false) (hseen : s.link.seen = true) :
    s.linkAlive = State.offerNotice { s with link := { s.link with up := true, silence := true } } .link 0 1 := by
  simp [State.linkAlive, h, hseen]

@[simp] theorem State.linkAlive_strap (s : State) : s.linkAlive.link.strap = s.link.strap := by
  simp only [State.linkAlive]
  split <;> rfl

/-! Dispatch (R7, R9, R16) -/

/-- Outside MEDIA only a request goes past the Link Port (R7). -/
theorem State.dispatch_cameraOnly (h : s.unit.service = .cameraOnly) {p : Parcel} (hp : p.kind ≠ .request) :
    s.dispatch p = s := by
  have hm : s.media = false := by simp [State.media, h]
  unfold State.dispatch
  cases hk : p.kind with
  | fill => rfl
  | pictureLine => simp [hm]
  | pictureMark => simp [hm]
  | sound => simp [hm]
  | request => exact absurd hk hp

/-- A valid parcel that is no request only keeps the link alive in CAMERA_ONLY. -/
theorem State.receive_cameraOnly (h : s.unit.service = .cameraOnly) {w0 w1 w2 : Word} {payload : List Word}
    {k : DownKind} (hk : downKind (kindField w0) = some k) (hreq : k ≠ .request) (hcount : countField w1 = payload.length)
    (hlegal : downstreamLegal (kindField w0) payload.length) :
    s.receive (parcelWords w0 w1 w2 payload) = s.linkAlive := by
  rw [State.receive_valid (classify_valid hk hcount hlegal)]
  exact State.dispatch_cameraOnly (by rw [State.linkAlive_unit, h]) hreq

/-- A valid request parcel is offered to the request queue as its admission says. -/
theorem State.receive_request {w0 w1 w2 : Word} {payload : List Word} (hk : kindField w0 = 4)
    (hcount : countField w1 = payload.length) (hlegal : downstreamLegal 4 payload.length) :
    s.receive (parcelWords w0 w1 w2 payload) =
      match admission s.link.strap.toNat (stationField w0) with
      | none => s.linkAlive
      | some wanted => s.linkAlive.offerRequest ⟨payload, w2.extractLsb' 0 8, wanted⟩ := by
  have hvalid := classify_valid (w0 := w0) (w1 := w1) (w2 := w2) (k := .request) (by rw [hk]; rfl) hcount
    (hk.symm ▸ hlegal)
  rw [State.receive_valid hvalid, State.dispatch, State.linkAlive_strap]
  rfl

theorem State.offerRequest_room (h : s.unit.queue.length < 8) (r : QueuedRequest) :
    s.offerRequest r = s.withQueue (s.unit.queue ++ [r]) := if_pos h

theorem State.offerRequest_full (h : 8 ≤ s.unit.queue.length) (r : QueuedRequest) : s.offerRequest r = s.bump 3 1 :=
  if_neg (Nat.not_lt.mpr h)

end Receive

/-! Table 1-6 -/

theorem admission_off (station : Nat) : admission 15 station = none := rfl

theorem admission_wanted {strap station : Nat} (hoff : strap ≠ 15) (h : strap = 0 ∨ station = strap) :
    admission strap station = some true := by
  by_cases h0 : strap = 0
  · simp [admission, h0]
  · simp [admission, hoff, h0, h.resolve_left h0]

theorem admission_broadcast {strap : Nat} (hoff : strap ≠ 15) (h0 : strap ≠ 0) : admission strap 0 = some false := by
  simp [admission, hoff, h0, Ne.symm h0]

theorem admission_other {strap station : Nat} (h0 : strap ≠ 0) (hs : station ≠ strap) (hb : station ≠ 0) :
    admission strap station = none := by
  simp [admission, h0, hs, hb]

/-! The statements -/

/-- Settles O5: the first failing test of R6 names the counter, and a count touches that counter alone. -/
theorem failedParcelCountsOnce : Obligations.FailedParcelCountsOnce := by
  refine ⟨fun s hs => ⟨fun words hlen => ?_, fun w0 w1 w2 c payload hc => ?_, fun w0 w1 w2 payload hbad => ?_⟩,
    fun s i n hwf => ⟨State.bump_counter_same hwf i n, fun j hj => s.bump_counter_other n hj, rfl⟩⟩
  · rw [exec_discardedParcel hs, State.receive_checkFail (classify_short hlen)]
  · rw [exec_discardedParcel hs, State.receive_checkFail]
    rw [classify_whole, if_pos hc.symm]
  · rw [exec_discardedParcel hs, State.receive_badParcel]
    rw [classify_parcelWords]
    exact receiveBody_badParcel hbad

/-- Settles O6: FILL has no effect beyond the link's, and outside MEDIA the media kinds have none either. -/
theorem validParcelKeepsLinkAlive : Obligations.ValidParcelKeepsLinkAlive := by
  refine ⟨⟨fun s w0 w1 w2 hs hk hc => ?_, fun s h => State.linkAlive_of_up h,
    fun s h hseen => State.linkAlive_of_first h hseen, fun s h hseen => State.linkAlive_of_recovery h hseen⟩,
    fun s w0 w1 w2 payload hs hcam hc hlegal => ⟨fun hk => ?_, fun hk => ?_, fun hk => ?_⟩⟩
  · have hvalid := classify_valid (w0 := w0) (w1 := w1) (w2 := w2) (payload := []) (k := .fill) (by rw [hk]; rfl) hc
      (.inl ⟨hk, rfl⟩)
    rw [exec_fill hs, State.receive_valid hvalid]
    rfl
  · rw [exec_pictureLine hs, State.receive_cameraOnly hcam (k := .pictureLine) (by rw [hk]; rfl) (by decide) hc hlegal]
  · rw [exec_pictureMark hs, State.receive_cameraOnly hcam (k := .pictureMark) (by rw [hk]; rfl) (by decide) hc hlegal]
  · rw [exec_sound hs, State.receive_cameraOnly hcam (k := .sound) (by rw [hk]; rfl) (by decide) hc hlegal]

/-- Settles O10: each row of Table 1-6, and the request queue below and at its bound. -/
theorem requestAdmittedByStation : Obligations.RequestAdmittedByStation := by
  intro s w0 w1 w2 payload hs hk hc hlegal strap station answer request
  have hanswer : answer = .next (match admission strap station with
      | none => s.linkAlive
      | some wanted => s.linkAlive.offerRequest (request wanted)) :=
    (exec_request hs _).trans (congrArg _ (State.receive_request hk hc hlegal))
  have room : ∀ wanted, s.unit.queue.length < 8 →
      s.linkAlive.offerRequest (request wanted) = s.linkAlive.withQueue (s.unit.queue ++ [request wanted]) := by
    intro wanted hq
    rw [State.offerRequest_room (by rwa [State.linkAlive_unit]), State.linkAlive_unit]
  rw [hanswer]
  refine ⟨fun hoff => ?_, fun h0 _ hst hb => ?_, fun hoff hst hq => ?_, fun h0 hoff hb hq => ?_, fun hoff hst hq => ?_⟩
  · rw [hoff, admission_off]
  · rw [admission_other h0 hst hb]
  · rw [admission_wanted hoff hst]
    exact congrArg _ (room true hq)
  · rw [hb, admission_broadcast hoff h0]
    exact congrArg _ (room false hq)
  · have full : ∀ wanted, s.linkAlive.offerRequest (request wanted) = s.linkAlive.bump 3 1 := fun wanted =>
      State.offerRequest_full (by rwa [State.linkAlive_unit]) _
    by_cases hown : strap = 0 ∨ station = strap
    · rw [admission_wanted hoff hown]
      exact congrArg _ (full true)
    · obtain ⟨h0, hne⟩ := not_or.mp hown
      obtain hb : station = 0 := (hst.resolve_left h0).resolve_left hne
      rw [hb, admission_broadcast hoff h0]
      exact congrArg _ (full false)

end Sys2Proof.Machine
end

section
/-! The upstream side of the Link Port: the reply slot, the arbiter and the end of the link (O11, O12, O14). -/

namespace Sys2Proof.Machine

open Sys2Proof

section Upward

variable {s : State}

/-! The reply slot (R14) -/

theorem State.emptySlot_none (h : s.link.slot = none) : s.emptySlot = s := by
  rw [State.emptySlot, h]

theorem State.emptySlot_some {r : Reply} (h : s.link.slot = some r) :
    s.emptySlot = { s with link := { s.link with slot := none }, unit := s.unit.report r } := by
  rw [State.emptySlot, h]

theorem RequestUnit.report_plain (u : RequestUnit) {r : Reply} (h : r.restart = none) : u.report r = u := by
  rw [RequestUnit.report, h]

theorem RequestUnit.report_restart (u : RequestUnit) {r : Reply} {k : RestartKind} (h : r.restart = some k) :
    u.report r = { u with status := .restarting k true } := by
  rw [RequestUnit.report, h]

/-! The link goes down (R10, R12) -/

/-- What waits upstream is gone and counted, with the report of a waiting reply. -/
theorem State.linkDown_eq (s : State) : s.linkDown = State.bump { s with
    link := { s.link with up := false, silence := false, slot := none }
    rear := { s.rear with queue := [] }
    unit := s.link.slot.elim s.unit s.unit.report } 2 (s.rear.queue.length + if s.link.slot.isSome then 1 else 0) := by
  simp only [State.linkDown]
  cases hslot : s.link.slot with
  | none =>
    rw [State.emptySlot_none]
    all_goals rfl
  | some r =>
    rw [State.emptySlot_some (r := r)]
    all_goals rfl

theorem exec_silenceTimerExpiry (h : s.held = none) :
    exec .silenceTimerExpiry s = .next (if s.link.silence then s.linkDown else s) :=
  whenLive_live h fun s => if s.link.silence then s.linkDown else s

/-! The arbiter (R15) -/

theorem exec_parcelEnd (h : s.held = none) : exec .parcelEnd s = .next s.beginParcel :=
  whenLive_live h State.beginParcel

theorem State.beginParcel_down (h : s.link.up = false) :
    s.beginParcel = { s with link := { s.link with sending := fillParcel s.link.strap } } := by
  simp [State.beginParcel, h]

theorem State.beginParcel_picture (h : s.link.up = true) {p : UpPicture} {rest : List UpPicture}
    (hq : s.rear.queue = p :: rest) : s.beginParcel = { s with
      rear := { s.rear with queue := rest }
      link := { s.link with sending := pictureParcel s.link.strap p } } := by
  simp [State.beginParcel, h, hq]

theorem State.beginParcel_reply (h : s.link.up = true) (hq : s.rear.queue = []) {r : Reply}
    (hr : s.link.slot = some r) : s.beginParcel = { s with
      link := { s.link with slot := none, sending := replyParcel s.link.strap r }
      unit := s.unit.report r } := by
  simp [State.beginParcel, h, hq, hr, State.emptySlot_some hr]

theorem State.beginParcel_notice (h : s.link.up = true) (hq : s.rear.queue = []) (hr : s.link.slot = none) {n : Notice}
    {rest : List Notice} (hn : s.notices.records = n :: rest) : s.beginParcel = { s with
      notices := { s.notices with records := rest }
      link := { s.link with sending := noticeParcel s.link.strap n } } := by
  simp [State.beginParcel, h, hq, hr, hn]

theorem State.beginParcel_fill (h : s.link.up = true) (hq : s.rear.queue = []) (hr : s.link.slot = none)
    (hn : s.notices.records = []) :
    s.beginParcel = { s with link := { s.link with sending := fillParcel s.link.strap } } := by
  simp [State.beginParcel, h, hq, hr, hn]

/-! The hand-off (R12, R17) -/

theorem State.finish_unwanted_restart {r : QueuedRequest} (h : r.wanted = false) (code : ReplyCode) (data : List Word)
    (k : RestartKind) :
    s.finish r code data (some k) = { s with unit := { s.unit with status := .restarting k true } } := by
  simp [State.finish, h]

theorem State.handOff_up (h : s.link.up = true) (r : Reply) :
    s.handOff r = { s with link := { s.link with slot := some r }, unit := s.unit.handedOver r } := if_pos h

theorem State.handOff_down (h : s.link.up = false) (r : Reply) :
    s.handOff r = { s.bump 2 1 with unit := (s.unit.handedOver r).report r } := if_neg (by simp [h])

theorem exec_replyHandoff_kept (h : s.held = none) {r : Reply} (hs : s.unit.status = .holding r)
    (hslot : s.link.slot = none) : exec .replyHandoff s = .next (s.handOff r) := by
  simp [exec, execReplyHandoff, whenLive_live h, hs, hslot]

theorem exec_replyHandoff_idle (h : s.held = none) (hs : s.link.slot ≠ none ∨ ∀ r, s.unit.status ≠ .holding r) :
    exec .replyHandoff s = .next s := by
  simp only [exec, execReplyHandoff, whenLive_live h]
  split
  next r hst hslot =>
    rcases hs with hs | hs
    · exact absurd hslot hs
    · exact absurd hst (hs r)
  · rfl

end Upward

/-! The statements -/

/-- Settles O11: the next state is `linkDown_eq`'s, and its one count is UP_DISCARDS. -/
theorem silenceTakesLinkDown : Obligations.SilenceTakesLinkDown := by
  refine fun s hs => ⟨fun hsil => ?_, fun hsil hwf => ⟨s.linkDown, ?_, ?_, fun j hj => ?_, ?_, fun r k hr hk => ?_,
    fun hr => ?_⟩⟩
  · rw [exec_silenceTimerExpiry hs, hsil]; rfl
  · rw [exec_silenceTimerExpiry hs, hsil]; rfl
  · rw [s.linkDown_eq]; rfl
  · rw [s.linkDown_eq, State.bump_counter_other _ _ hj]; rfl
  · rw [s.linkDown_eq, State.bump_counter_same (by exact hwf), Nat.add_assoc]; rfl
  · rw [s.linkDown_eq, hr]
    exact s.unit.report_restart hk
  · rw [s.linkDown_eq]
    cases hslot : s.link.slot with
    | none => rfl
    | some r => exact s.unit.report_plain (hr r hslot)

/-- Settles O12: the arbiter's rule for each of the five cases. -/
theorem parcelEndChoosesNext : Obligations.ParcelEndChoosesNext := by
  intro s hs
  simp only [exec_parcelEnd hs]
  refine ⟨fun hup => ?_, fun p rest hup hq => ?_, fun r hup hq hr => ?_, fun n rest hup hq hr hn => ?_,
    fun hup hq hr hn => ?_⟩
  · rw [State.beginParcel_down hup]
  · rw [State.beginParcel_picture hup hq]
  · rw [State.beginParcel_reply hup hq hr]
    cases hk : r.restart with
    | none => rw [s.unit.report_plain hk]
    | some k => rw [s.unit.report_restart hk]
  · rw [State.beginParcel_notice hup hq hr hn]
  · rw [State.beginParcel_fill hup hq hr hn]

/-- Settles O14: the ways of a finished reply, then what REPLY_HANDOFF makes of a kept one. -/
theorem replyDelivery : Obligations.ReplyDelivery := by
  refine ⟨fun s r code data k => ?_, fun s r hup => ?_, fun s r hup => ?_,
    fun s r hs hst hslot => exec_replyHandoff_kept hs hst hslot, fun s hs hno => exec_replyHandoff_idle hs hno⟩
  · intro reply
    refine ⟨fun hw hk => ?_, fun j hw hk => ?_, fun hw hslot => ?_, fun hw hslot => ?_⟩
    · rw [hk, State.finish_unwanted hw]
    · rw [hk, State.finish_unwanted_restart hw]
    · exact State.finish_full hw hslot code data k
    · exact State.finish_empty hw hslot code data k
  · rw [State.handOff_up hup, RequestUnit.handedOver]
    cases r.restart <;> rfl
  · rw [State.handOff_down hup, RequestUnit.handedOver, RequestUnit.report]
    cases r.restart <;> rfl

end Sys2Proof.Machine
end

section
/-! What the part sends: the fields of an assembled header, the pixel packing and its inverse, and the parcels of each
kind (O13). -/

namespace Sys2Proof.Machine

open Sys2Proof

/-! Header fields (R2, Table 1-2) -/

/-- The first header word that `assemble` builds. -/
def headerWord (kind : Nat) (strap : BitVec 4) (source : Nat) (tag : Tag) : Word :=
  BitVec.ofNat 16 (kind * 4096 + strap.toNat * 256 + source * 64 + tag.val * 16)

/-- An assembled parcel is whole: header, payload and the check word over them. -/
theorem assemble_eq_parcelWords (kind : Nat) (strap : BitVec 4) (source : Nat) (tag : Tag) (w2 : Word)
    (payload : List Word) : assemble kind strap source tag w2 payload =
      parcelWords (headerWord kind strap source tag) (BitVec.ofNat 16 payload.length) w2 payload := rfl

section HeaderWord

variable {kind source : Nat} (hkind : kind < 16) (hsource : source < 4) (strap : BitVec 4) (tag : Tag)
include hkind hsource

theorem headerWord_toNat : (headerWord kind strap source tag).toNat =
    kind * 4096 + strap.toNat * 256 + source * 64 + tag.val * 16 := by
  have hstrap := strap.isLt
  have htag := tag.isLt
  rw [headerWord, BitVec.toNat_ofNat]
  omega

theorem kindField_headerWord : kindField (headerWord kind strap source tag) = kind := by
  have hstrap := strap.isLt
  have htag := tag.isLt
  rw [kindField, BitVec.extractLsb'_toNat, headerWord_toNat hkind hsource, Nat.shiftRight_eq_div_pow]
  omega

theorem stationField_headerWord : stationField (headerWord kind strap source tag) = strap.toNat := by
  have hstrap := strap.isLt
  have htag := tag.isLt
  rw [stationField, BitVec.extractLsb'_toNat, headerWord_toNat hkind hsource, Nat.shiftRight_eq_div_pow]
  omega

theorem progField_headerWord : (progField (headerWord kind strap source tag)).val = source := by
  have htag := tag.isLt
  rw [progField, fin4, BitVec.val_toFin, BitVec.extractLsb'_toNat, headerWord_toNat hkind hsource,
    Nat.shiftRight_eq_div_pow]
  omega

theorem tagField_headerWord : tagField (headerWord kind strap source tag) = tag := by
  have htag := tag.isLt
  apply Fin.ext
  rw [tagField, fin4, BitVec.val_toFin, BitVec.extractLsb'_toNat, headerWord_toNat hkind hsource,
    Nat.shiftRight_eq_div_pow]
  omega

end HeaderWord

theorem countField_ofNat {n : Nat} (h : n < 2048) : countField (BitVec.ofNat 16 n) = n := by
  rw [countField, BitVec.extractLsb'_toNat, BitVec.toNat_ofNat, Nat.shiftRight_zero]
  omega

theorem lineField_ofNat {n : Nat} (h : n < 1024) : lineField (BitVec.ofNat 16 n) = n := by
  rw [lineField, BitVec.extractLsb'_toNat, BitVec.toNat_ofNat, Nat.shiftRight_zero]
  omega

/-! The packing of pixels (R4) -/

@[simp] theorem Word.hi_ofBytes (h l : Byte) : (Word.ofBytes h l).hi = h := BitVec.extractLsb'_append_eq_left
@[simp] theorem Word.lo_ofBytes (h l : Byte) : (Word.ofBytes h l).lo = l := BitVec.extractLsb'_append_eq_right

theorem packPixels_length (px : List Rgb) : (packPixels px).length = (3 * px.length + 1) / 2 := by
  induction px using packPixels.induct with
  | case1 p q rest ih => simp only [packPixels, List.length_cons, ih]; omega
  | case2 p => simp [packPixels]
  | case3 => rfl

theorem unpackPixels_packPixels (px : List Rgb) : unpackPixels (packPixels px) = px := by
  induction px using packPixels.induct with
  | case1 p q rest ih =>
    rw [unpackPixels] at ih
    simp [unpackPixels, packPixels, wordBytes, bytePixels, ih]
  | case2 p => simp [unpackPixels, packPixels, wordBytes, bytePixels]
  | case3 => rfl

/-- No whole number of pixels packs to a count that R3 rejects. -/
theorem packPixels_legal {px : List Rgb} (h1 : 1 ≤ px.length) (h2 : px.length ≤ 1280) :
    downstreamLegal 1 (packPixels px).length := by
  have hlen := packPixels_length px
  exact .inr (.inl ⟨rfl, by omega, by omega, by omega⟩)

/-! Codes -/

theorem ReplyCode.toNat_lt (c : ReplyCode) : c.toNat < 16 := by cases c <;> decide

theorem NoticeKind.code_lt (k : NoticeKind) : k.code < 16 := by cases k <;> decide

theorem PictureSource.code_lt (p : PictureSource) : p.code < 4 := by cases p <;> decide

theorem toNat_ofNat_word {n : Nat} (h : n < 65536) : (BitVec.ofNat 16 n).toNat = n := by
  rw [BitVec.toNat_ofNat]
  exact Nat.mod_eq_of_lt h

/-! The parcels of each kind (R13) -/

theorem fillParcel_whole (strap : BitVec 4) : ∃ w0 w1 w2, fillParcel strap = parcelWords w0 w1 w2 [] ∧
    kindField w0 = 0 ∧ stationField w0 = strap.toNat ∧ countField w1 = 0 ∧ w2 = 0 :=
  ⟨_, _, _, assemble_eq_parcelWords .., kindField_headerWord (by decide) (by decide) ..,
    stationField_headerWord (by decide) (by decide) .., countField_ofNat (by decide), rfl⟩

theorem replyParcel_whole (strap : BitVec 4) (r : Reply) (h : r.data.length ≤ 32) : ∃ w0 w1 w2 code,
    replyParcel strap r = parcelWords w0 w1 w2 (code :: r.data) ∧ kindField w0 = 9 ∧ stationField w0 = strap.toNat ∧
    countField w1 = 1 + r.data.length ∧ w2 = r.tag.setWidth 16 ∧ code.toNat = r.code.toNat := by
  refine ⟨_, _, _, _, assemble_eq_parcelWords .., kindField_headerWord (by decide) (by decide) ..,
    stationField_headerWord (by decide) (by decide) .., ?_, rfl, toNat_ofNat_word (r.code.toNat_lt.trans (by decide))⟩
  rw [List.length_cons, countField_ofNat (by omega), Nat.add_comm]

theorem noticeParcel_whole (strap : BitVec 4) (n : Notice) : ∃ w0 w1 w2 kind hi lo,
    noticeParcel strap n = parcelWords w0 w1 w2 [kind, n.detail, n.value, hi, lo] ∧ kindField w0 = 10 ∧
    stationField w0 = strap.toNat ∧ countField w1 = 5 ∧ w2 = 0 ∧ kind.toNat = n.kind.code ∧ hi ++ lo = n.time := by
  refine ⟨_, _, _, _, _, _, assemble_eq_parcelWords .., kindField_headerWord (by decide) (by decide) ..,
    stationField_headerWord (by decide) (by decide) .., countField_ofNat (by simp), rfl,
    toNat_ofNat_word (n.kind.code_lt.trans (by decide)), ?_⟩
  rw [BitVec.extractLsb'_append_extractLsb'_eq_extractLsb' (by rfl)]
  exact BitVec.extractLsb'_eq_self

theorem markParcel_whole (strap : BitVec 4) (src : PictureSource) (tag : Tag) {w h : Nat} (hw : w ≤ 1280)
    (hh : h ≤ 800) : ∃ w0 w1 w2 x y,
    pictureParcel strap (.mark src tag w h) = parcelWords w0 w1 w2 [x, y] ∧ kindField w0 = 2 ∧
    stationField w0 = strap.toNat ∧ (progField w0).val = src.code ∧ tagField w0 = tag ∧ countField w1 = 2 ∧ w2 = 0 ∧
    x.toNat = w ∧ y.toNat = h ∧ downstreamLegal (kindField w0) 2 := by
  have hkind := kindField_headerWord (kind := 2) (by decide) src.code_lt strap tag
  exact ⟨_, _, _, _, _, assemble_eq_parcelWords .., hkind, stationField_headerWord (by decide) src.code_lt ..,
    progField_headerWord (by decide) src.code_lt .., tagField_headerWord (by decide) src.code_lt ..,
    countField_ofNat (by simp), rfl, toNat_ofNat_word (by omega), toNat_ofNat_word (by omega),
    .inr (.inr (.inl ⟨hkind, rfl⟩))⟩

theorem lineParcel_whole (strap : BitVec 4) (src : PictureSource) (tag : Tag) {n : Nat} {px : List Rgb} (hn : n < 1024)
    (hpx : px.length ≤ 1280) : ∃ w0 w1 w2,
    pictureParcel strap (.line src tag n px) = parcelWords w0 w1 w2 (packPixels px) ∧ kindField w0 = 1 ∧
    stationField w0 = strap.toNat ∧ (progField w0).val = src.code ∧ tagField w0 = tag ∧
    countField w1 = (packPixels px).length ∧ lineField w2 = n ∧ unpackPixels (packPixels px) = px ∧
    (packPixels px).length = (3 * px.length + 1) / 2 ∧
    (1 ≤ px.length → downstreamLegal (kindField w0) (packPixels px).length) := by
  have hkind := kindField_headerWord (kind := 1) (by decide) src.code_lt strap tag
  have hlen := packPixels_length px
  refine ⟨_, _, _, assemble_eq_parcelWords .., hkind, stationField_headerWord (by decide) src.code_lt ..,
    progField_headerWord (by decide) src.code_lt .., tagField_headerWord (by decide) src.code_lt ..,
    countField_ofNat (by omega), lineField_ofNat hn, unpackPixels_packPixels px, hlen, fun h1 => ?_⟩
  rw [hkind]
  exact packPixels_legal h1 hpx

/-- Settles O13: every parcel is assembled, so its header fields are read back from the assembled words. -/
theorem sentParcelsAreWhole : Obligations.SentParcelsAreWhole :=
  ⟨fillParcel_whole, replyParcel_whole, noticeParcel_whole, fun strap src tag _ _ => markParcel_whole strap src tag,
    fun strap src tag _ _ => lineParcel_whole strap src tag⟩

end Sys2Proof.Machine
end

section
/-! What the invariants of single blocks say, clause by clause, and which changes of a block keep them (O60). -/

namespace Sys2Proof.Machine

open Sys2Proof

/-! Line stores (R47) -/

/-- The frame and line a slot holds. -/
def Slot.place (y : Slot) : Tag × Nat := (y.tag, y.line)

theorem slotsDistinct_iff (store : List Slot) : slotsDistinct store = true ↔ (store.map Slot.place).Nodup := by
  induction store with
  | nil => simp [slotsDistinct]
  | cons y rest ih =>
    simp only [slotsDistinct, Bool.and_eq_true, List.all_eq_true, Bool.not_eq_true', decide_eq_false_iff_not, ih,
      List.map_cons, List.nodup_cons, List.mem_map, Slot.place, Prod.mk.injEq, not_exists, not_and]
    grind

theorem Display.storeSound_iff (x : Display) :
    x.storeSound = true ↔ x.store.length ≤ 16 ∧ (x.store.map Slot.place).Nodup := by
  simp only [Display.storeSound, slotsDistinct_iff, Bool.and_eq_true, decide_eq_true_eq]
  rfl

/-- A store that holds some of the lines it held is sound, whatever became of their pixels. -/
theorem Display.storeSound_of_places {x y : Display} (h : x.storeSound = true)
    (hs : (y.store.map Slot.place).Sublist (x.store.map Slot.place)) : y.storeSound = true := by
  rw [Display.storeSound_iff] at h ⊢
  have hlen := hs.length_le
  simp only [List.length_map] at hlen
  exact ⟨hlen.trans h.1, h.2.sublist hs⟩

theorem places_filter (p : Slot → Bool) (store : List Slot) :
    ((store.filter p).map Slot.place).Sublist (store.map Slot.place) :=
  List.filter_sublist.map _

theorem places_map {f : Slot → Slot} (hf : ∀ y, (f y).place = y.place) (store : List Slot) :
    (store.map f).map Slot.place = store.map Slot.place := by
  simp [hf]

theorem Slot.replaced_place (y : Slot) (tag : Tag) (line : Nat) (pixels : List Rgb) :
    (y.replaced tag line pixels).place = y.place := by
  unfold Slot.replaced
  split <;> rfl

/-- A line that no slot holds is appended where there is room. -/
theorem Display.storeSound_append {x : Display} (h : x.storeSound = true) {y : Slot} (hroom : x.store.length < 16)
    (hnew : ∀ z ∈ x.store, z.isLine y.tag y.line = false) : Display.storeSound { x with store := x.store ++ [y] } = true := by
  rw [Display.storeSound_iff] at h ⊢
  obtain ⟨-, hnodup⟩ := h
  refine ⟨by simpa using hroom, ?_⟩
  have hplace : y.place ∉ x.store.map Slot.place := by
    simp only [List.mem_map, not_exists, not_and, Slot.place, Prod.mk.injEq]
    intro z hz htag hline
    simpa [Slot.isLine, htag, hline] using hnew z hz
  simpa [List.nodup_append] using ⟨hnodup, by simpa using hplace⟩

theorem Display.drawLine_storeSound {x : Display} (h : x.storeSound = true) (y : Slot) (l next : Nat) :
    (x.drawLine y l next).storeSound = true := by
  refine Display.storeSound_of_places h ?_
  simp only [Display.drawLine]
  split
  · exact (places_filter _ _).trans (places_filter _ _)
  · rw [places_map fun z => by split <;> rfl]
    exact places_filter _ _

theorem Display.takeRoute_storeSound {x : Display} (h : x.storeSound = true) (route : Option Prog) :
    (x.takeRoute route).storeSound = true := by
  unfold Display.takeRoute
  split
  · exact h
  · rfl

/-! The notice queue (R38, R40, R41) -/

/-- The state source of a notice (Table 2-8). -/
def Notice.source (n : Notice) : NoticeKind × Word := (n.kind, n.detail)

/-- The sources of the queued records: each state source at most once, at most 2 SELECT records, all of Table 2-8. -/
structure SourcesSound (l : List (NoticeKind × Word)) : Prop where
  apart   : l.Pairwise fun x y => x.1 = .select ∨ x ≠ y
  selects : l.countP (fun x => decide (x.1 = .select)) ≤ 2
  legal   : ∀ x ∈ l, detailLegal x.1 x.2 = true

theorem noticesApart_iff (l : List Notice) :
    noticesApart l = true ↔ (l.map Notice.source).Pairwise fun x y => x.1 = .select ∨ x ≠ y := by
  induction l with
  | nil => simp [noticesApart]
  | cons n rest ih =>
    simp only [noticesApart, Bool.and_eq_true, List.all_eq_true, ih, List.map_cons, List.pairwise_cons, Notice.apart,
      Bool.or_eq_true, decide_eq_true_eq, Bool.not_eq_true', decide_eq_false_iff_not, List.forall_mem_map, Notice.source,
      ne_eq, Prod.mk.injEq]

theorem NoticeQueue.sound_iff (q : NoticeQueue) : q.sound = true ↔ SourcesSound (q.records.map Notice.source) := by
  have hselects : (q.records.map Notice.source).countP (fun x => decide (x.1 = .select)) = q.selects := by
    rw [List.countP_map]; rfl
  simp only [NoticeQueue.sound, Bool.and_eq_true, noticesApart_iff, decide_eq_true_eq, List.all_eq_true, and_assoc]
  constructor
  · rintro ⟨hapart, hcount, hlegal⟩
    exact ⟨hapart, hselects ▸ hcount, by simpa [Notice.source] using hlegal⟩
  · rintro ⟨hapart, hcount, hlegal⟩
    exact ⟨hapart, hselects ▸ hcount, by simpa [Notice.source] using hlegal⟩

theorem SourcesSound.append {l : List (NoticeKind × Word)} (h : SourcesSound l) {k : NoticeKind} {d : Word}
    (hd : detailLegal k d = true) (hnew : ∀ x ∈ l, x.1 = .select ∨ x ≠ (k, d))
    (hroom : k = .select → l.countP (fun x => decide (x.1 = .select)) < 2) : SourcesSound (l ++ [(k, d)]) where
  apart := List.pairwise_append.mpr ⟨h.apart, List.pairwise_singleton _ _, fun x hx y hy =>
    List.mem_singleton.mp hy ▸ hnew x hx⟩
  selects := by
    by_cases hk : k = .select
    · have := hroom hk
      simp [List.countP_append, hk]; omega
    · simpa [List.countP_append, hk] using h.selects
  legal := by
    intro x hx
    rcases List.mem_append.mp hx with hx | hx
    · exact h.legal x hx
    · rw [List.mem_singleton.mp hx]; exact hd

/-- A state notice of a source of Table 2-8 merges into its source's record or joins as the only one (R40). -/
theorem NoticeQueue.offer_sound {q : NoticeQueue} (h : q.sound = true) (enabled : Bool) {k : NoticeKind} {d : Word}
    (hd : detailLegal k d = true) (hk : k ≠ .select) (v : Word) : (q.offer enabled k d v).sound = true := by
  cases enabled with
  | false => exact h
  | true =>
    rw [NoticeQueue.sound_iff] at h
    by_cases hheld : ∃ n ∈ q.records, n.from k d = true
    · rw [NoticeQueue.offer_merge v hheld, NoticeQueue.sound_iff, List.map_map]
      have hsource : Notice.source ∘ (fun n => if n.from k d = true then { n with value := v, time := q.time } else n) =
          Notice.source := by
        funext n
        simp only [Function.comp]
        split <;> rfl
      rwa [hsource]
    · have hnone : ∀ n ∈ q.records, n.from k d = false := by simpa using hheld
      rw [NoticeQueue.offer_new v hnone, NoticeQueue.sound_iff, List.map_append]
      refine h.append hd (fun x hx => .inr ?_) fun h => absurd h hk
      obtain ⟨n, hn, rfl⟩ := List.mem_map.mp hx
      simpa [Notice.from, Notice.source] using hnone n hn

/-- An accepted SELECT notice is at most the second (R41). -/
theorem NoticeQueue.offerSelect_sound {q : NoticeQueue} (h : q.sound = true) (enabled : Bool) (d v : Word) :
    (q.offerSelect enabled d v).sound = true := by
  unfold NoticeQueue.offerSelect
  split
  next hin =>
    rw [NoticeQueue.sound_iff] at h ⊢
    rw [List.map_append]
    refine h.append rfl (fun x _ => ?_) fun _ => ?_
    · by_cases hx : x.1 = .select
      · exact .inl hx
      · exact .inr fun he => hx (congrArg Prod.fst he)
    · have hroom : q.selects < 2 := by
        cases enabled <;> simp [NoticeQueue.acceptsSelect] at hin
        omega
      rw [List.countP_map]; exact hroom
  next => exact h

/-- Once the oldest record has gone upstream the rest are sound. -/
theorem NoticeQueue.sound_tail {q : NoticeQueue} (h : q.sound = true) {n : Notice} {rest : List Notice}
    (hq : q.records = n :: rest) : NoticeQueue.sound { q with records := rest } = true := by
  rw [NoticeQueue.sound_iff, hq, List.map_cons] at h
  rw [NoticeQueue.sound_iff]
  obtain ⟨hapart, hselects, hlegal⟩ := h
  refine ⟨hapart.of_cons, ?_, fun x hx => hlegal x (List.mem_cons_of_mem _ hx)⟩
  rw [List.countP_cons] at hselects
  exact (Nat.le_add_right _ _).trans hselects

/-! The overlay hold (R105) -/

/-- FREE has no cause and HELD has one: the hold state has answered to the causes. -/
def HoldState.agrees (h : HoldState) (cause : Bool) : Prop := (h = .free → cause = false) ∧ (h = .held → cause = true)

theorem State.holdSound_iff (s : State) : s.holdSound = true ↔ s.guide.hold.agrees s.holdCause := by
  cases h : s.guide.hold <;> simp [State.holdSound, HoldState.agrees, h]

theorem HoldState.react_agrees (h : HoldState) (cause : Bool) : (h.react cause).agrees cause := by
  cases h <;> cases cause <;> simp [HoldState.react, HoldState.agrees]

theorem HoldState.resolve_agrees {h : HoldState} {cause : Bool} (ha : h.agrees cause) : (h.resolve cause).agrees cause := by
  cases h <;> cases cause <;> simp_all [HoldState.resolve, HoldState.agrees]

/-! Page stacks (R127) -/

/-- At most 6 entries, each naming a page record and a position 0 to 11. -/
def StackSound (stack : List PageEntry) : Prop := stack.length ≤ 6 ∧ ∀ e ∈ stack, e.sound = true

theorem Menu.sound_iff (m : Menu) : m.sound = true ↔ StackSound m.stack ∧ (m.timeout ≠ none → m.stack ≠ []) := by
  simp only [Menu.sound, StackSound, Bool.and_eq_true, decide_eq_true_eq, List.all_eq_true, Bool.or_eq_true,
    Option.isNone_iff_eq_none, Bool.not_eq_true', List.isEmpty_eq_false_iff, or_iff_not_imp_left, ne_eq]
  rfl

theorem StackSound.nil : StackSound [] := ⟨by decide, by simp⟩

theorem StackSound.cons {e : PageEntry} {stack : List PageEntry} (h : StackSound stack) (hroom : stack.length < 6)
    (he : e.sound = true) : StackSound (e :: stack) :=
  ⟨hroom, by simpa [he] using h.2⟩

theorem StackSound.tail {stack : List PageEntry} (h : StackSound stack) : StackSound stack.tail :=
  ⟨(List.tail_sublist stack).length_le.trans h.1, fun e he => h.2 e (List.mem_of_mem_tail he)⟩

theorem PageEntry.sound_iff (e : PageEntry) : e.sound = true ↔ e.page < 32 ∧ ∀ i, e.highlight = some i → i < 12 := by
  unfold PageEntry.sound
  rw [Bool.and_eq_true, decide_eq_true_eq]
  cases e.highlight <;> simp [Config.pageCount]

theorem pageRecord_count_le (pages : Table) (p : Nat) : (pageRecord pages p).count ≤ 12 := Nat.min_le_right _ _

theorem firstHighlight_lt {p : PageRecord} {items : Table} {i : Nat} (h : firstHighlight p items = some i) : i < p.count :=
  List.mem_range.mp (List.mem_of_find?_eq_some h)

theorem downFrom_lt {p : PageRecord} {items : Table} {j : Option Nat} {i : Nat} (h : downFrom p items j = some i) :
    i < p.count :=
  List.mem_range.mp (List.mem_of_find?_eq_some h)

theorem upFrom_lt {p : PageRecord} {items : Table} {j : Option Nat} {i : Nat} (h : upFrom p items j = some i) :
    i < p.count :=
  List.mem_range.mp (List.mem_reverse.mp (List.mem_of_find?_eq_some h))

/-! Rings (R140) and outlets (R146) -/

theorem Ring.sound_iff (r : Ring) : r.sound = true ↔ r.frames.length ≤ 512 ∧ (r.state = .unrouted → r.frames = []) := by
  simp only [Ring.sound, Bool.and_eq_true, Bool.or_eq_true, decide_eq_true_eq, List.isEmpty_iff, or_iff_not_imp_left,
    not_not, ne_eq]
  rfl

theorem Ring.join_sound {r : Ring} (h : r.sound = true) (frames : List Stereo) (st : SoundState)
    (hst : st ≠ .unrouted) : Ring.sound { r.join frames with state := st } = true := by
  rw [Ring.sound_iff] at h ⊢
  refine ⟨?_, fun hu => absurd hu hst⟩
  have hlen := r.join_length frames h.1
  simp only [hlen]
  omega

theorem Ring.claim_sound {r : Ring} (h : r.sound = true) (claimed : Bool) : (r.claim claimed).sound = true := by
  unfold Ring.claim
  split
  · split
    · rfl
    · exact h
  · rfl

theorem OutletState.sound_iff (o : OutletState) : o.sound = true ↔ o.gain ≤ 32768 ∧ o.duck ≤ 32768 := by
  simp only [OutletState.sound, Bool.and_eq_true, decide_eq_true_eq]
  rfl

theorem TableStore.legal_mixer {t : TableStore} (h : t.legal = true) {i : Nat} (hi : i < 35) :
    mixerLegal i (t.mixer.read i) = true := by
  simp only [TableStore.legal, Bool.and_eq_true, List.all_eq_true, List.mem_range] at h
  obtain ⟨-, hmixer⟩ := h
  exact hmixer i hi

/-- The volume step of an outlet is one of 0 to 20, whose volume entries lie within unity (Table 9-2). -/
theorem targetGain_le {t : TableStore} (h : t.legal = true) (o : Outlet) : targetGain t.mixer o ≤ 32768 := by
  have hstep : t.mixer.nat (21 + outletIndex o) ≤ 20 := by
    have := TableStore.legal_mixer h (i := 21 + outletIndex o) (by cases o <;> decide)
    cases o <;> exact of_decide_eq_true this
  have := TableStore.legal_mixer h (i := t.mixer.nat (21 + outletIndex o)) (by omega)
  rw [mixerLegal, if_pos hstep] at this
  exact of_decide_eq_true this

theorem OutletState.settleSource_levels (o : OutletState) (w : Option Prog) :
    (o.settleSource w).gain = o.gain ∧ (o.settleSource w).duck = o.duck := by
  unfold OutletState.settleSource
  repeat' split
  all_goals exact ⟨rfl, rfl⟩

theorem OutletState.takeSource_levels (o : OutletState) : o.takeSource.gain = o.gain ∧ o.takeSource.duck = o.duck := by
  unfold OutletState.takeSource
  repeat' split
  all_goals exact ⟨rfl, rfl⟩

/-- Both ramps of an outlet move between levels within unity (R146, R148, R149). -/
theorem State.tickOutlet_sound {s : State} (hl : s.tables.legal = true) (i : Outlet) {o : OutletState}
    (h : o.sound = true) : (s.tickOutlet i o).sound = true := by
  rw [OutletState.sound_iff] at h ⊢
  obtain ⟨hgain, hduck⟩ := h
  have hs := o.settleSource_levels (routeProg (s.tables.route.read (outletRoute i)))
  have htarget : s.duckTarget i ≤ 32768 := Nat.min_le_left _ _
  refine ⟨?_, approach_le ?_ htarget _ _⟩
  · change (OutletState.takeSource _).gain ≤ _
    rw [(OutletState.takeSource_levels _).1]
    refine approach_le (by rw [hs.1]; exact hgain) ?_ _ _
    split
    · omega
    · exact targetGain_le hl i
  · rw [(OutletState.takeSource_levels _).2]
    exact hs.2.le.trans hduck

end Sys2Proof.Machine
end

section
/-! What a change from one state to another keeps of the blocks' invariants, operation by operation (O60). -/

namespace Sys2Proof.Machine

open Sys2Proof

/-- The invariants of the blocks that every operation keeps, even in the midst of an event: if the block is sound before,
it is sound after. A field an operation leaves as it was is filled in by itself. -/
structure KeepsMost (s t : State) : Prop where
  stores   : (∀ d, (s.disp.get d).storeSound = true) → ∀ d, (t.disp.get d).storeSound = true := by exact id
  hold     : s.holdSound = true → t.holdSound = true := by exact id
  notices  : s.notices.sound = true → t.notices.sound = true := by exact id
  requests : s.unit.sound = true → t.unit.sound = true := by exact id
  rings    : (∀ p, (s.rings.get p).sound = true) → ∀ p, (t.rings.get p).sound = true := by exact id
  outlets  : (∀ o, (s.outlets.get o).sound = true) → ∀ o, (t.outlets.get o).sound = true := by exact id

/-- With the camera and the menus, which are sound again only once an event on them is complete. -/
structure Keeps (s t : State) : Prop extends KeepsMost s t where
  camera : s.camera.sound s.held.isNone = true → t.camera.sound t.held.isNone = true := by exact id
  menus  : (∀ d, (s.menus.get d).sound = true) → ∀ d, (t.menus.get d).sound = true := by exact id

section Steps

variable {s t u : State}

theorem KeepsMost.trans (h : KeepsMost s t) (k : KeepsMost t u) : KeepsMost s u where
  stores := k.stores ∘ h.stores
  hold := k.hold ∘ h.hold
  notices := k.notices ∘ h.notices
  requests := k.requests ∘ h.requests
  rings := k.rings ∘ h.rings
  outlets := k.outlets ∘ h.outlets

theorem Keeps.refl (s : State) : Keeps s s := {}

theorem Keeps.trans (h : Keeps s t) (k : Keeps t u) : Keeps s u where
  toKeepsMost := h.toKeepsMost.trans k.toKeepsMost
  camera := k.camera ∘ h.camera
  menus := k.menus ∘ h.menus

/-! Shared operations -/

theorem State.bump_keeps (s : State) (i n : Nat) : Keeps s (s.bump i n) := {}

theorem State.offerNotice_keeps (s : State) {k : NoticeKind} {d : Word} (hd : detailLegal k d = true) (hk : k ≠ .select)
    (v : Word) : Keeps s (s.offerNotice k d v) where
  notices h := NoticeQueue.offer_sound h _ hd hk v

theorem State.offerPictureNotice_keeps (s : State) (d : Side) (v : Picture) : Keeps s (s.offerPictureNotice d v) :=
  s.offerNotice_keeps (by cases d <;> rfl) (by decide) _

theorem State.offerGroup_keeps (s : State) (g : GroupId) (v : Word) : Keeps s (s.offerNotice .group g.code v) :=
  s.offerNotice_keeps (by cases g <;> rfl) (by decide) v

theorem State.offerPicture_keeps (s : State) (p : UpPicture) : Keeps s (s.offerPicture p) := by
  rcases s.offerPicture_cases p with ⟨-, he⟩ | ⟨-, -, he⟩ | ⟨-, -, he⟩
  all_goals rw [he]; exact {}

/-- A display whose store holds some of the lines it held. -/
theorem State.setDisp_keeps (s : State) (d : Side) {x : Display}
    (hx : (s.disp.get d).storeSound = true → x.storeSound = true) : Keeps s (s.setDisp d x) where
  stores h e := by
    by_cases he : e = d
    · subst he
      rw [State.setDisp_disp, Pair.get_set_same]
      exact hx (h e)
    · rw [State.setDisp_disp, Pair.get_set_other _ _ he]
      exact h e

theorem State.setRing_keeps (s : State) (p : Prog) {r : Ring} (hr : (s.rings.get p).sound = true → r.sound = true) :
    Keeps s (s.setRing p r) where
  rings h q := by
    by_cases hq : q = p
    · subst hq
      rw [State.setRing_rings, Quad.get_set_same]
      exact hr (h q)
    · rw [State.setRing_rings, Quad.get_set_other _ _ hq]
      exact h q

theorem State.setMenu_keeps (s : State) (seat : Side) {m : Menu} (hm : (s.menus.get seat).sound = true → m.sound = true) :
    Keeps s (s.setMenu seat m) where
  menus h e := by
    by_cases he : e = seat
    · subst he
      rw [State.setMenu_menus, Pair.get_set_same]
      exact hm (h e)
    · rw [State.setMenu_menus, Pair.get_set_other _ _ he]
      exact h e

theorem State.handOff_keeps (s : State) (r : Reply) : Keeps s (s.handOff r) := by
  unfold State.handOff RequestUnit.handedOver RequestUnit.report
  repeat' split
  all_goals exact {}

theorem State.finish_keeps (s : State) (r : QueuedRequest) (code : ReplyCode) (data : List Word)
    (k : Option RestartKind) : Keeps s (s.finish r code data k) := by
  unfold State.finish
  split
  · split
    · exact s.handOff_keeps _
    · exact {}
  · split <;> exact {}

theorem State.emptySlot_keeps (s : State) : Keeps s s.emptySlot := by
  unfold State.emptySlot RequestUnit.report
  split
  · exact {}
  · split <;> exact {}

/-! Picture Ingest and the rings -/

theorem State.storeLine_keeps (s : State) (d : Side) (p : Prog) (tag : Tag) (line : Nat) (pixels : List Rgb) :
    Keeps s (s.storeLine d p tag line pixels) := by
  simp only [State.storeLine]
  split
  case h_4 =>
    refine s.setDisp_keeps d fun h => Display.storeSound_of_places h ?_
    exact (places_map (fun y => y.replaced_place tag line pixels) _).symm ▸ List.Sublist.refl _
  case h_5 happ =>
    have hnew : ((s.disp.get d).store.any fun y => y.isLine tag line) = false ∧ (s.disp.get d).store.length < 16 := by
      unfold Display.arrival at happ
      split_ifs at happ with _ _ hany hroom
      exact ⟨by simpa using hany, Nat.not_le.mp hroom⟩
    refine s.setDisp_keeps d fun h => Display.storeSound_append h hnew.2 ?_
    simpa using hnew.1
  all_goals exact s.bump_keeps _ _

theorem State.fanLine_keeps (s : State) (d : Side) (p : Prog) (tag : Tag) (line : Nat) (pixels : List Rgb) :
    Keeps s (s.fanLine d p tag line pixels) := by
  unfold State.fanLine
  split
  · exact s.storeLine_keeps ..
  · exact .refl s

theorem State.haltDisplay_keeps (s : State) (d : Side) (p : Prog) : Keeps s (s.haltDisplay d p) := by
  simp only [State.haltDisplay]
  split
  · exact (s.setDisp_keeps d fun _ => rfl).trans (State.offerPictureNotice_keeps _ d .halted)
  · exact .refl s

theorem State.purgeTag_keeps (s : State) (d : Side) (p : Prog) (tag : Tag) : Keeps s (s.purgeTag d p tag) := by
  simp only [State.purgeTag]
  split
  · exact (s.setDisp_keeps d fun h => Display.storeSound_of_places h (places_filter _ _)).trans (State.bump_keeps _ _ _)
  · exact .refl s

theorem State.countMalformed_keeps (s : State) (d : Side) (p : Prog) : Keeps s (s.countMalformed d p) := by
  unfold State.countMalformed
  split
  · exact s.bump_keeps _ _
  · exact .refl s

theorem State.takeFormat_keeps (s : State) (p : Prog) (w h : Nat) : Keeps s (s.takeFormat p w h) := by
  have format : Keeps s { s with formats := s.formats.set p { s.formats.get p with width := w, height := h } } := {}
  simp only [State.takeFormat]
  split
  · exact format
  · exact (format.trans (State.haltDisplay_keeps _ .a p)).trans (State.haltDisplay_keeps _ .b p)

theorem State.takeTag_keeps (s : State) (p : Prog) (tag : Tag) : Keeps s (s.takeTag p tag) := by
  have tagged : ∀ t : State, Keeps t { t with formats := t.formats.set p { t.formats.get p with lastTag := some tag } } :=
    fun t => {}
  simp only [State.takeTag]
  split
  · exact tagged s
  · exact ((s.purgeTag_keeps .a p tag).trans (State.purgeTag_keeps _ .b p tag)).trans (tagged _)

theorem State.pictureMark_keeps (s : State) (p : Prog) (tag : Tag) (w h : Nat) : Keeps s (s.pictureMark p tag w h) := by
  unfold State.pictureMark
  split
  · exact (s.takeFormat_keeps p w h).trans (State.takeTag_keeps _ p tag)
  · exact (s.countMalformed_keeps .a p).trans (State.countMalformed_keeps _ .b p)

theorem State.offerSound_keeps (s : State) (p : Prog) (st : SoundState) : Keeps s (s.offerSound p st) := by
  refine s.offerNotice_keeps ?_ (by decide) _
  fin_cases p <;> rfl

theorem State.soundArrives_keeps (s : State) (p : Prog) (frames : List Stereo) : Keeps s (s.soundArrives p frames) := by
  simp only [State.soundArrives]
  split
  · exact .refl s
  next hr =>
    have counted : ∀ n, Keeps s (if n = 0 then s else s.bump (cntSoundOverflow p) n) := by
      intro n
      split
      · exact .refl s
      · exact s.bump_keeps _ _
    have rings : ∀ n, (if n = 0 then s else s.bump (cntSoundOverflow p) n).rings = s.rings := by
      intro n
      split <;> rfl
    split
    · refine ((counted _).trans (State.setRing_keeps _ p fun h => ?_)).trans (State.offerSound_keeps _ p .playing)
      rw [rings] at h
      exact Ring.join_sound h frames .playing (by decide)
    · refine (counted _).trans (State.setRing_keeps _ p fun h => ?_)
      rw [rings] at h
      exact Ring.join_sound h frames _ hr

/-! The Link Port -/

theorem State.offerRequest_keeps (s : State) (r : QueuedRequest) : Keeps s (s.offerRequest r) := by
  unfold State.offerRequest
  split
  next hroom =>
    exact { requests := fun _ => decide_eq_true (by simpa using hroom) }
  next => exact s.bump_keeps _ _

theorem State.linkAlive_keeps (s : State) : Keeps s s.linkAlive := by
  simp only [State.linkAlive]
  split
  · exact Keeps.trans {} (State.offerNotice_keeps _ (k := .link) (d := 0) rfl (by decide) 1)
  · exact {}

theorem State.dispatch_keeps (s : State) (p : Parcel) : Keeps s (s.dispatch p) := by
  unfold State.dispatch
  split
  case h_1 => exact .refl s
  case h_2 =>
    split
    · exact (s.fanLine_keeps .a ..).trans (State.fanLine_keeps _ .b ..)
    · exact .refl s
  case h_3 =>
    split
    · exact s.pictureMark_keeps ..
    · exact .refl s
  case h_4 =>
    split
    · exact s.soundArrives_keeps _ _
    · exact .refl s
  case h_5 =>
    split
    · exact .refl s
    · exact s.offerRequest_keeps _

theorem State.receive_keeps (s : State) (words : List Word) : Keeps s (s.receive words) := by
  unfold State.receive
  split
  · exact s.bump_keeps _ _
  · exact s.bump_keeps _ _
  · exact s.linkAlive_keeps.trans (State.dispatch_keeps _ _)

theorem State.linkDown_keeps (s : State) : Keeps s s.linkDown :=
  (Keeps.trans {} (State.emptySlot_keeps _)).trans (State.bump_keeps _ _ _)

theorem State.beginParcel_keeps (s : State) : Keeps s s.beginParcel := by
  simp only [State.beginParcel]
  split
  · exact {}
  · split
    · exact {}
    · split
      · exact s.emptySlot_keeps.trans {}
      · split
        next n rest hn => exact { notices := fun h => NoticeQueue.sound_tail h hn }
        next => exact {}

/-! The rear view and the hold -/

theorem State.followView_keeps (s : State) : Keeps s s.followView := by
  unfold State.followView
  split
  · exact .refl s
  · exact {}

theorem State.offerReverse_keeps (s : State) : Keeps s s.offerReverse :=
  s.offerNotice_keeps (k := .reverse) (d := 0) rfl (by decide) _

theorem State.refreshView_keeps (s : State) : Keeps s s.refreshView := by
  unfold State.refreshView
  split
  · exact .refl s
  · exact s.followView_keeps.trans (State.offerReverse_keeps _)

theorem State.changeReverse_keeps (s : State) (r : ReverseState) (linger : Option Nat) :
    Keeps s (s.changeReverse r linger) :=
  (Keeps.trans {} (State.followView_keeps _)).trans (State.offerReverse_keeps _)

theorem State.evalReverse_keeps (s : State) : Keeps s s.evalReverse := by
  unfold State.evalReverse
  split
  · exact (s.changeReverse_keeps .on none).trans {}
  · exact (s.changeReverse_keeps .on none).trans {}
  · split
    · exact (s.changeReverse_keeps .linger _).trans {}
    · exact (s.changeReverse_keeps .off none).trans {}
  · exact .refl s

theorem State.reverseSample_keeps (s : State) (x : Bool) : Keeps s (s.reverseSample x) := by
  simp only [State.reverseSample]
  split
  · exact {}
  · exact Keeps.trans {} (State.evalReverse_keeps _)

theorem State.reverseSamples_keeps (s : State) (samples : List Bool) :
    Keeps s (samples.foldl State.reverseSample s) := by
  induction samples generalizing s with
  | nil => exact .refl s
  | cons x rest ih => exact (s.reverseSample_keeps x).trans (ih _)

/-- Once the hold has reacted it agrees with its causes, whatever changed them. -/
theorem State.reactHold_holdSound (s : State) : s.reactHold.holdSound = true := by
  rw [State.holdSound_iff]
  exact HoldState.react_agrees _ _

theorem State.setHoldRequest_keeps (s : State) (present : Bool) : Keeps s (s.setHoldRequest present) where
  hold _ := State.reactHold_holdSound _

theorem State.calSample_keeps (s : State) (x : Bool) : Keeps s (s.calSample x) := by
  simp only [State.calSample]
  split
  next hsame =>
    refine { hold := fun h => ?_ }
    have hcause : State.holdCause { s with rear := { s.rear with calPin := s.rear.calPin.sample x } } = s.holdCause := by
      simp only [State.holdCause, hsame]
    rw [State.holdSound_iff] at h ⊢
    rwa [hcause]
  next => exact { hold := fun _ => State.reactHold_holdSound _ }

theorem State.calSamples_keeps (s : State) (samples : List Bool) : Keeps s (samples.foldl State.calSample s) := by
  induction samples generalizing s with
  | nil => exact .refl s
  | cons x rest ih => exact (s.calSample_keeps x).trans (ih _)

theorem State.setSteer_keeps (s : State) (x : Steering) : Keeps s (s.setSteer x) := by
  simp only [State.setSteer]
  split
  · exact {}
  · exact Keeps.trans {} (State.offerNotice_keeps _ (k := .steer) (d := 0) rfl (by decide) _)

end Steps

end Sys2Proof.Machine
end

section
/-! The camera's events keep the blocks sound (O60). -/

namespace Sys2Proof.Machine

open Sys2Proof

/-- Counts, timers and the frame in progress agree with the camera state, clause by clause (R93 to R96, R98). -/
structure CameraInput.Sound (c : CameraInput) (live : Bool) : Prop where
  buffer    : c.buffer.length ≤ 4
  good      : c.good ≤ 3
  bad       : c.bad ≤ 2
  noSignal  : c.state = .noSignal → c.watch = none ∧ (live = true → c.freeRun ≠ none) ∧ c.measured = none
  acquiring : c.state = .acquiring → c.watch ≠ none ∧ (live = true → c.freeRun ≠ none) ∧ c.good ≤ 2
  locked    : c.state = .locked → c.watch ≠ none ∧ c.freeRun = none ∧ c.bad ≤ 1
  frame     : ∀ f, c.frame = some f → (f.kind = .camera ↔ c.state = .locked)
  noFrame   : c.frame = none → c.state ≠ .locked

theorem CameraInput.sound_iff (c : CameraInput) (live : Bool) : c.sound live = true ↔ c.Sound live := by
  unfold CameraInput.sound
  simp only [Bool.and_eq_true, decide_eq_true_eq, and_assoc]
  constructor
  · rintro ⟨hbuffer, hgood, hbad, hstate, hframe⟩
    refine ⟨hbuffer, hgood, hbad, fun hs => ?_, fun hs => ?_, fun hs => ?_, fun f hf => ?_, fun hf => ?_⟩
    · rw [hs] at hstate; cases live <;> simpa [Option.isSome_iff_ne_none, and_assoc] using hstate
    · rw [hs] at hstate; cases live <;> simpa [Option.isSome_iff_ne_none, and_assoc] using hstate
    · rw [hs] at hstate; simpa [Option.isSome_iff_ne_none, and_assoc] using hstate
    · rw [hf] at hframe; exact of_decide_eq_true hframe
    · rw [hf] at hframe; exact of_decide_eq_true hframe
  · rintro ⟨hbuffer, hgood, hbad, hnoSignal, hacquiring, hlocked, hframe, hnoFrame⟩
    refine ⟨hbuffer, hgood, hbad, ?_, ?_⟩
    · cases hs : c.state with
      | noSignal => cases live <;> simpa [Option.isSome_iff_ne_none, and_assoc] using hnoSignal hs
      | acquiring => cases live <;> simpa [Option.isSome_iff_ne_none, and_assoc] using hacquiring hs
      | locked => simpa [Option.isSome_iff_ne_none, and_assoc] using hlocked hs
    · cases hf : c.frame with
      | none => exact decide_eq_true (hnoFrame hf)
      | some f => exact decide_eq_true (hframe f hf)

namespace CameraInput.Sound

variable {c : CameraInput} {live : Bool}

/-- What a camera input without a signal has to meet. -/
theorem of_noSignal (hs : c.state = .noSignal) (hbuffer : c.buffer.length ≤ 4) (hgood : c.good ≤ 3) (hbad : c.bad ≤ 2)
    (hwatch : c.watch = none) (hfree : live = true → c.freeRun ≠ none) (hmeasured : c.measured = none)
    (hframe : ∀ f, c.frame = some f → f.kind ≠ .camera) : c.Sound live where
  buffer := hbuffer
  good := hgood
  bad := hbad
  noSignal _ := ⟨hwatch, hfree, hmeasured⟩
  acquiring h := absurd (hs.symm.trans h) (by decide)
  locked h := absurd (hs.symm.trans h) (by decide)
  frame f hf := ⟨fun hk => absurd hk (hframe f hf), fun h => absurd (hs.symm.trans h) (by decide)⟩
  noFrame _ h := absurd (hs.symm.trans h) (by decide)

/-- What an acquiring camera input has to meet. -/
theorem of_acquiring (hs : c.state = .acquiring) (hbuffer : c.buffer.length ≤ 4) (hgood : c.good ≤ 2) (hbad : c.bad ≤ 2)
    (hwatch : c.watch ≠ none) (hfree : live = true → c.freeRun ≠ none)
    (hframe : ∀ f, c.frame = some f → f.kind ≠ .camera) : c.Sound live where
  buffer := hbuffer
  good := hgood.trans (by decide)
  bad := hbad
  noSignal h := absurd (hs.symm.trans h) (by decide)
  acquiring _ := ⟨hwatch, hfree, hgood⟩
  locked h := absurd (hs.symm.trans h) (by decide)
  frame f hf := ⟨fun hk => absurd hk (hframe f hf), fun h => absurd (hs.symm.trans h) (by decide)⟩
  noFrame _ h := absurd (hs.symm.trans h) (by decide)

/-- What a locked camera input has to meet. -/
theorem of_locked (hs : c.state = .locked) (hbuffer : c.buffer.length ≤ 4) (hgood : c.good ≤ 3) (hbad : c.bad ≤ 1)
    (hwatch : c.watch ≠ none) (hfree : c.freeRun = none) {n : Nat} (hframe : c.frame = some ⟨.camera, n⟩) :
    c.Sound live where
  buffer := hbuffer
  good := hgood
  bad := hbad.trans (by decide)
  noSignal h := absurd (hs.symm.trans h) (by decide)
  acquiring h := absurd (hs.symm.trans h) (by decide)
  locked _ := ⟨hwatch, hfree, hbad⟩
  frame f hf := by
    obtain rfl := Option.some.inj (hframe.symm.trans hf)
    exact iff_of_true rfl hs
  noFrame h := absurd (hframe.symm.trans h) (by simp)

/-- Out of LOCKED no frame of camera rows is in progress. -/
theorem notCamera (h : c.Sound live) (hs : c.state ≠ .locked) : ∀ f, c.frame = some f → f.kind ≠ .camera :=
  fun f hf hk => hs ((h.frame f hf).mp hk)

/-- In LOCKED a frame of camera rows is. -/
theorem camera_frame (h : c.Sound live) (hs : c.state = .locked) : ∃ n, c.frame = some ⟨.camera, n⟩ := by
  cases hf : c.frame with
  | none => exact absurd hs (h.noFrame hf)
  | some f =>
    obtain ⟨kind, n⟩ := f
    obtain rfl : kind = .camera := (h.frame _ hf).mpr hs
    exact ⟨n, rfl⟩

end CameraInput.Sound

section Steps

variable {s t : State}

theorem KeepsMost.withCamera (h : KeepsMost s t) (c : CameraInput) : KeepsMost s { t with camera := c } :=
  h.trans {}

/-! The camera output frame start (R95) -/

theorem State.swapCameraBank_keeps (s : State) : Keeps s s.swapCameraBank := by
  simp only [State.swapCameraBank]
  split
  · have offered : Keeps s (State.offerNotice (s.setGroup .camera s.tables.camera.frameStart) .group
        GroupId.camera.code GroupState.copying.code) :=
      Keeps.trans {} (State.offerGroup_keeps _ .camera _)
    exact (offered.trans {}).trans (State.refreshView_keeps _)
  · exact {}

theorem State.beginCameraFrame_keeps (s : State) (swapped : Bool) : KeepsMost s (s.beginCameraFrame swapped) where
  hold h := by
    rw [State.holdSound_iff] at h ⊢
    exact HoldState.resolve_agrees h

theorem State.cameraMark_keeps (s : State) : Keeps s s.cameraMark := by
  unfold State.cameraMark
  split
  · exact Keeps.trans {} (State.offerPicture_keeps _ _)
  · exact {}

theorem State.cameraFrameStart_keepsMost (s : State) : KeepsMost s s.cameraFrameStart :=
  (s.swapCameraBank_keeps.toKeepsMost.trans (State.beginCameraFrame_keeps _ _)).trans
    (State.cameraMark_keeps _).toKeepsMost

/-- The frame that begins is of camera rows in LOCKED and of generated rows otherwise; no count and no timer moves. -/
theorem State.cameraFrameStart_camera (s : State) : ∃ latched, s.cameraFrameStart.camera = { s.camera with
    latched := latched, frameNo := s.camera.frameNo + 1,
    frame := some ⟨if s.camera.state = .locked then .camera else .generated, 0⟩ } := by
  have hswap : s.swapCameraBank.camera = s.camera := by
    simp only [State.swapCameraBank]
    split
    · rw [State.refreshView_camera]; rfl
    · rfl
  have hmark : ∀ u : State, u.cameraMark.camera = u.camera := by
    intro u
    unfold State.cameraMark
    split
    · rw [State.offerPicture_camera]
    · rfl
  have hlatch : ∀ frozen active, ∃ latched, s.camera.latch frozen active = { s.camera with latched := latched } := by
    intro frozen active
    unfold CameraInput.latch
    split
    · exact ⟨_, rfl⟩
    · exact ⟨_, rfl⟩
  rw [State.cameraFrameStart, hmark]
  simp only [State.beginCameraFrame, hswap, decide_eq_true_eq]
  obtain ⟨latched, hl⟩ := hlatch (decide (s.swapCameraBank.guide.hold.resolve s.swapCameraBank.holdCause = .held) &&
    !s.tables.camera.swaps) s.swapCameraBank.tables.camera.active
  exact ⟨latched, by rw [hl]⟩

/-- A camera output frame start is nothing to the reset in force and to the menus. -/
theorem State.cameraFrameStart_frame (s : State) :
    s.cameraFrameStart.held = s.held ∧ s.cameraFrameStart.menus = s.menus := by
  have hswap : s.swapCameraBank.held = s.held ∧ s.swapCameraBank.menus = s.menus := by
    simp only [State.swapCameraBank]
    split
    · rw [State.refreshView_held, State.refreshView_menus]; exact ⟨rfl, rfl⟩
    · exact ⟨rfl, rfl⟩
  unfold State.cameraFrameStart State.cameraMark
  split
  · rw [State.offerPicture_held, State.offerPicture_menus]; exact hswap
  · exact hswap

/-! Syncs (R92 to R94) -/

theorem State.setCameraState_keepsMost (s : State) (st : CameraState) : KeepsMost s (s.setCameraState st) :=
  KeepsMost.trans {} (State.offerNotice_keeps _ (k := .camera) (d := 0) rfl (by decide) _).toKeepsMost

theorem State.frameSync_keepsMost (s : State) (lineToo : Bool) : KeepsMost s (s.frameSync lineToo) := by
  have moved : ∀ (u : State) (c : CameraInput) (st : CameraState), KeepsMost s u →
      KeepsMost s (State.setCameraState { u with camera := c } st) :=
    fun u c st h => (h.withCamera c).trans (State.setCameraState_keepsMost _ st)
  have started : ∀ u : State, KeepsMost s u → KeepsMost s u.cameraFrameStart.startWatch :=
    fun u h => (h.trans u.cameraFrameStart_keepsMost).trans {}
  simp only [State.frameSync]
  split
  · exact (moved s _ .acquiring {}).trans {}
  · simp only [State.syncAcquiring]
    split
    · exact {}
    · exact {}
    · split
      · exact started _ ((moved s _ .locked {}).trans {})
      · exact {}
  · simp only [State.syncLocked]
    split
    · split
      · exact (moved s _ .acquiring {}).trans {}
      · exact started _ {}
    · exact started _ {}
    · exact started _ {}

theorem State.frameSync_frame (s : State) (lineToo : Bool) :
    (s.frameSync lineToo).held = s.held ∧ (s.frameSync lineToo).menus = s.menus := by
  have started : ∀ u : State, u.held = s.held → u.menus = s.menus →
      u.cameraFrameStart.startWatch.held = s.held ∧ u.cameraFrameStart.startWatch.menus = s.menus := by
    intro u hheld hmenus
    obtain ⟨h1, h2⟩ := u.cameraFrameStart_frame
    exact ⟨h1.trans hheld, h2.trans hmenus⟩
  simp only [State.frameSync]
  split
  · exact ⟨rfl, rfl⟩
  · simp only [State.syncAcquiring]
    split
    · exact ⟨rfl, rfl⟩
    · exact ⟨rfl, rfl⟩
    · split
      · exact started _ rfl rfl
      · exact ⟨rfl, rfl⟩
  · simp only [State.syncLocked]
    split
    · split
      · exact ⟨rfl, rfl⟩
      · exact started _ rfl rfl
    · exact started _ rfl rfl
    · exact started _ rfl rfl

/-- A camera output frame start leaves the camera state, so that a locked camera has a frame of camera rows after it. -/
theorem State.cameraFrameStart_locked (hs : s.camera.state = .locked) (hbuffer : s.camera.buffer.length ≤ 4)
    (hgood : s.camera.good ≤ 3) (hbad : s.camera.bad ≤ 1) (hfree : s.camera.freeRun = none) :
    s.cameraFrameStart.startWatch.camera.Sound true := by
  obtain ⟨latched, hc⟩ := s.cameraFrameStart_camera
  have hw : s.cameraFrameStart.startWatch.camera = { s.camera with
      latched := latched, frameNo := s.camera.frameNo + 1, frame := some ⟨.camera, 0⟩,
      watch := some (watchPeriod latched) } := by
    simp only [State.startWatch, hc, hs, if_true]
  rw [hw]
  exact .of_locked hs hbuffer hgood hbad (Option.some_ne_none _) hfree rfl

/-- A frame sync leads from each camera state to a sound one (R93 to R95). -/
theorem State.frameSync_sound (h : s.camera.Sound true) (lineToo : Bool) : (s.frameSync lineToo).camera.Sound true := by
  simp only [State.frameSync]
  split
  next hs =>
    obtain ⟨-, hfree, -⟩ := h.noSignal hs
    exact .of_acquiring rfl h.buffer (Nat.zero_le _) h.bad (Option.some_ne_none _) hfree (h.notCamera (by simp [hs]))
  next hs =>
    obtain ⟨-, hfree, hgood⟩ := h.acquiring hs
    have hframe := h.notCamera (by simp [hs])
    simp only [State.syncAcquiring]
    split
    · exact .of_acquiring hs h.buffer hgood h.bad (Option.some_ne_none _) hfree hframe
    · exact .of_acquiring hs h.buffer (Nat.zero_le _) h.bad (Option.some_ne_none _) hfree hframe
    · split
      · exact State.cameraFrameStart_locked rfl h.buffer (Nat.succ_le_succ hgood) (Nat.zero_le _) rfl
      next hlow =>
        exact .of_acquiring hs h.buffer (Nat.not_le.mp hlow) h.bad (Option.some_ne_none _) hfree hframe
  next hs =>
    obtain ⟨-, hfree, hbad⟩ := h.locked hs
    simp only [State.syncLocked]
    split
    · split
      · exact .of_acquiring rfl h.buffer (Nat.zero_le _) (Nat.succ_le_succ hbad) (Option.some_ne_none _)
          (fun _ => Option.some_ne_none _) nofun
      next hfirst => exact State.cameraFrameStart_locked hs h.buffer h.good (Nat.not_le.mp hfirst) hfree
    · exact State.cameraFrameStart_locked hs h.buffer h.good (Nat.zero_le _) hfree
    · exact State.cameraFrameStart_locked hs h.buffer h.good hbad hfree

/-- An event of the camera that keeps the other blocks' invariants and leaves a sound camera. -/
theorem Keeps.of_camera (hs : s.held = none) (hmost : KeepsMost s t) (hframe : t.held = s.held ∧ t.menus = s.menus)
    (hcamera : s.camera.Sound true → t.camera.Sound true) : Keeps s t where
  toKeepsMost := hmost
  camera h := by
    rw [hs] at h
    rw [hframe.1, hs]
    exact (t.camera.sound_iff true).mpr (hcamera ((s.camera.sound_iff true).mp h))
  menus h := by rw [hframe.2]; exact h

theorem State.frameSync_keeps (hs : s.held = none) (lineToo : Bool) : Keeps s (s.frameSync lineToo) :=
  .of_camera hs (s.frameSync_keepsMost lineToo) (s.frameSync_frame lineToo) fun h => State.frameSync_sound h lineToo

/-- An accepted line sync only counts lines; in ACQUIRING it restarts the sync watch (R92, R94). -/
theorem CameraInput.lineSync_sound {c : CameraInput} (h : c.Sound true) : c.lineSync.Sound true := by
  unfold CameraInput.lineSync
  cases hs : c.state with
  | noSignal =>
    obtain ⟨hwatch, hfree, hmeasured⟩ := h.noSignal hs
    exact .of_noSignal rfl h.buffer h.good h.bad (by simpa using hwatch) hfree (by simp [hmeasured])
      (h.notCamera (by simp [hs]))
  | acquiring =>
    obtain ⟨-, hfree, hgood⟩ := h.acquiring hs
    exact .of_acquiring rfl h.buffer hgood h.bad (by simp) hfree (h.notCamera (by simp [hs]))
  | locked =>
    obtain ⟨hwatch, hfree, hbad⟩ := h.locked hs
    obtain ⟨n, hframe⟩ := h.camera_frame hs
    exact .of_locked rfl h.buffer h.good hbad (by simpa using hwatch) hfree hframe

/-- At a loss of lock no camera row is left to come (R96). -/
theorem CameraInput.fillFrame_notCamera (c : CameraInput) : ∀ f, c.fillFrame = some f → f.kind ≠ .camera := by
  intro f hf
  unfold CameraInput.fillFrame at hf
  split at hf
  · cases hf; simp
  next hother =>
    obtain ⟨kind, n⟩ := f
    rintro rfl
    exact hother n hf

theorem State.watchLocked_keeps (hs : s.held = none) : Keeps s s.watchLocked := by
  have lost : ∀ (c : CameraInput) (st : CameraState), KeepsMost s (State.setCameraState { s with camera := c } st) :=
    fun c st => KeepsMost.trans {} (State.setCameraState_keepsMost _ st)
  simp only [State.watchLocked]
  split
  · refine .of_camera hs ((lost _ _).trans {}) ⟨rfl, rfl⟩ fun h => ?_
    exact .of_acquiring rfl h.buffer (Nat.zero_le _) h.bad (Option.some_ne_none _) (fun _ => Option.some_ne_none _)
      s.camera.fillFrame_notCamera
  · refine .of_camera hs (lost _ _) ⟨rfl, rfl⟩ fun h => ?_
    exact .of_noSignal rfl h.buffer h.good h.bad rfl (fun _ => Option.some_ne_none _) rfl s.camera.fillFrame_notCamera

theorem State.watchAcquiring_keeps (hs : s.held = none) (hstate : s.camera.state = .acquiring) :
    Keeps s s.watchAcquiring := by
  refine .of_camera hs (KeepsMost.trans {} (State.setCameraState_keepsMost _ _)) ⟨rfl, rfl⟩ fun h => ?_
  obtain ⟨-, hfree, -⟩ := h.acquiring hstate
  exact .of_noSignal rfl h.buffer h.good h.bad rfl hfree rfl (h.notCamera (by simp [hstate]))

/-- The free-run timer runs out of LOCKED only, where a frame of generated rows begins (R95). -/
theorem State.freeRun_keeps (hs : s.held = none) (hrun : s.camera.freeRun ≠ none) (interval : Nat) :
    Keeps s { s.cameraFrameStart with camera := { s.cameraFrameStart.camera with freeRun := some interval } } := by
  refine .of_camera hs (s.cameraFrameStart_keepsMost.withCamera _) s.cameraFrameStart_frame fun h => ?_
  obtain ⟨latched, hc⟩ := s.cameraFrameStart_camera
  have hunlocked : s.camera.state ≠ .locked := by
    intro hl
    obtain ⟨-, hfree, -⟩ := h.locked hl
    exact hrun hfree
  rw [hc, if_neg hunlocked]
  have hgenerated : ∀ f : CameraFrame, some ⟨.generated, 0⟩ = some f → f.kind ≠ .camera := by
    rintro f ⟨⟩; decide
  cases hstate : s.camera.state with
  | noSignal =>
    obtain ⟨hwatch, -, hmeasured⟩ := h.noSignal hstate
    exact .of_noSignal hstate h.buffer h.good h.bad hwatch (fun _ => Option.some_ne_none _) hmeasured hgenerated
  | acquiring =>
    obtain ⟨hwatch, -, hgood⟩ := h.acquiring hstate
    exact .of_acquiring hstate h.buffer hgood h.bad hwatch (fun _ => Option.some_ne_none _) hgenerated
  | locked => exact absurd hstate hunlocked

/-! Rows (R96 to R98) -/

/-- The frame may move on to another row and the buffer take or give rows within its depth. -/
theorem CameraInput.Sound.rows {c : CameraInput} {live : Bool} (h : c.Sound live) {frame : Option CameraFrame}
    (hframe : frame.map (fun f => f.kind) = c.frame.map fun f => f.kind) {buffer : List CameraRow}
    (hbuffer : buffer.length ≤ 4) : CameraInput.Sound { c with frame := frame, buffer := buffer } live where
  buffer := hbuffer
  good := h.good
  bad := h.bad
  noSignal := h.noSignal
  acquiring := h.acquiring
  locked := h.locked
  frame f hf := by
    obtain rfl : frame = some f := hf
    obtain ⟨g, hg, hk⟩ := Option.map_eq_some_iff.mp hframe.symm
    have hkind : g.kind = f.kind := hk
    exact hkind ▸ h.frame g hg
  noFrame hf := by
    obtain rfl : frame = none := hf
    exact h.noFrame (Option.map_eq_none_iff.mp hframe.symm)

/-- A completed row of the frame in progress is buffered where there is room and dropped otherwise (R98). -/
theorem State.completeRow_keeps (hs : s.held = none) {kind : RowKind} {n : Nat} (hframe : s.camera.frame = some ⟨kind, n⟩)
    (y : Nat) (pixels : List Rgb) : Keeps s (s.completeRow kind y pixels) := by
  have hkind : (some (⟨kind, y + 1⟩ : CameraFrame)).map (fun f => f.kind) = s.camera.frame.map fun f => f.kind := by
    rw [hframe]; rfl
  unfold State.completeRow State.bufferRow
  split
  next hroom =>
    refine .of_camera hs {} ⟨rfl, rfl⟩ fun h => h.rows hkind ?_
    rw [List.length_append]
    exact hroom
  next => exact .of_camera hs {} ⟨rfl, rfl⟩ fun h => h.rows hkind h.buffer

theorem CameraInput.rowDue_frame {c : CameraInput} {y : Nat} (h : c.rowDue = some y) :
    ∃ n, c.frame = some ⟨.camera, n⟩ := by
  unfold CameraInput.rowDue at h
  split at h
  next n hf => exact ⟨n, hf⟩
  next => cases h

theorem CameraInput.timedRow_frame {c : CameraInput} {kind : RowKind} {y : Nat} (h : c.timedRow kind = some y) :
    ∃ n, c.frame = some ⟨kind, n⟩ := by
  unfold CameraInput.timedRow at h
  split at h
  next k n hf =>
    split at h
    next hk => exact ⟨n, hk.1 ▸ hf⟩
    next => cases h
  next => cases h

theorem State.sendRow_keeps (s : State) (row : CameraRow) : Keeps s (s.sendRow row) := by
  unfold State.sendRow
  split
  · split
    · exact s.offerPicture_keeps _
    · exact .refl s
  · exact .refl s

theorem State.rowDrawn_keeps (hs : s.held = none) {row : CameraRow} {rest : List CameraRow}
    (hbuffer : s.camera.buffer = row :: rest) (drawn : CameraRow) :
    Keeps s (State.sendRow { s with camera := { s.camera with buffer := rest } } drawn) := by
  suffices taken : Keeps s { s with camera := { s.camera with buffer := rest } } from
    taken.trans (State.sendRow_keeps _ drawn)
  refine .of_camera hs {} ⟨rfl, rfl⟩ fun h => ?_
  have hlen := h.buffer
  rw [hbuffer, List.length_cons] at hlen
  exact h.rows rfl (Nat.le_of_succ_le hlen)

end Steps

end Sys2Proof.Machine
end

section
/-! Every command keeps the blocks sound: menus, displays, the sample tick, requests and resets (O60). -/

namespace Sys2Proof.Machine

open Sys2Proof

/-! Key effects (R129 to R136) -/

/-- An effect on one seat's menu in the midst of a press, whose timeout is set at its end: the seat's stack stays sound and
the other seat's menu as it was. -/
structure SeatKeeps (seat : Side) (s t : State) : Prop extends KeepsMost s t where
  camera : s.camera.sound s.held.isNone = true → t.camera.sound t.held.isNone = true := by exact id
  stack  : StackSound (s.menus.get seat).stack → StackSound (t.menus.get seat).stack := by exact id
  other  : ∀ e, e ≠ seat → t.menus.get e = s.menus.get e := by exact fun _ _ => rfl

section Steps

variable {s t u : State} {seat : Side}

theorem SeatKeeps.refl (seat : Side) (s : State) : SeatKeeps seat s s := {}

theorem SeatKeeps.trans (h : SeatKeeps seat s t) (k : SeatKeeps seat t u) : SeatKeeps seat s u where
  toKeepsMost := h.toKeepsMost.trans k.toKeepsMost
  camera := k.camera ∘ h.camera
  stack := k.stack ∘ h.stack
  other e he := (k.other e he).trans (h.other e he)

theorem State.setMenu_seatKeeps (s : State) (seat : Side) {m : Menu}
    (hm : StackSound (s.menus.get seat).stack → StackSound m.stack) : SeatKeeps seat s (s.setMenu seat m) where
  stack h := by
    rw [State.setMenu_menus, Pair.get_set_same]
    exact hm h
  other e he := Pair.get_set_other _ _ he

theorem State.deny_seatKeeps (s : State) (seat : Side) : SeatKeeps seat s s.deny := {}

theorem SeatKeeps.requestChime (h : SeatKeeps seat s t) (n : Nat) : SeatKeeps seat s (t.requestChime n) := h.trans {}

/-- A pushed page is a page record with its first enabled position, if it has one. -/
theorem State.pushPage_seatKeeps (s : State) (seat : Side) {page : Nat} (hpage : page < 32)
    (hroom : (s.menus.get seat).stack.length < 6) : SeatKeeps seat s (s.pushPage seat page) := by
  refine s.setMenu_seatKeeps seat fun h => h.cons hroom ?_
  rw [PageEntry.sound_iff]
  exact ⟨hpage, fun i hi => (firstHighlight_lt hi).trans_le (pageRecord_count_le _ _)⟩

theorem State.menuKey_seatKeeps (s : State) (seat : Side) : SeatKeeps seat s (s.menuKey seat) := by
  unfold State.menuKey
  split
  next hclosed =>
    have hroom : (s.menus.get seat).stack.length < 6 := by
      rw [show (s.menus.get seat).stack = [] from hclosed]; decide
    split
    · exact s.deny_seatKeeps seat
    next hpage => exact s.pushPage_seatKeeps seat (Nat.not_le.mp hpage) hroom
  next => exact s.setMenu_seatKeeps seat fun _ => StackSound.nil

/-- UP and DOWN put the highlight on a position of the page (R130). -/
theorem State.moveKey_seatKeeps (s : State) (seat : Side) {find : PageRecord → Table → Option Nat → Option Nat}
    (hfind : ∀ p items j i, find p items j = some i → i < p.count) : SeatKeeps seat s (s.moveKey seat find) := by
  unfold State.moveKey
  split
  · exact .refl seat s
  next e rest hstack =>
    simp only
    split
    next i hi =>
      refine (s.setMenu_seatKeeps seat fun h => ?_).requestChime _
      rw [show (s.menus.get seat).stack = e :: rest from hstack] at h
      obtain ⟨hlen, hall⟩ := h
      obtain ⟨hpage, -⟩ := e.sound_iff.mp (hall e List.mem_cons_self)
      refine StackSound.cons ⟨Nat.le_of_succ_le hlen, fun x hx => hall x (List.mem_cons_of_mem _ hx)⟩ hlen ?_
      rw [PageEntry.sound_iff]
      refine ⟨hpage, fun j hj => ?_⟩
      obtain rfl : i = j := Option.some.inj hj
      exact (hfind _ _ _ _ hi).trans_le (pageRecord_count_le _ _)
    next => exact s.deny_seatKeeps seat

theorem State.popPage_seatKeeps (s : State) (seat : Side) : SeatKeeps seat s (s.popPage seat) :=
  s.setMenu_seatKeeps seat fun h => h.tail

theorem State.offerRoute_seatKeeps (s : State) (seat by_ : Side) : SeatKeeps seat s (s.offerRoute by_) where
  notices h := NoticeQueue.offer_sound h _ rfl (by decide) _

theorem State.itemAction_seatKeeps (s : State) (seat : Side) (e : PageEntry) (item : Nat) :
    SeatKeeps seat s (s.itemAction seat e item) := by
  have routed : ∀ r : Table, SeatKeeps seat s (State.offerRoute { s with tables := { s.tables with route := r } } seat) :=
    fun r => SeatKeeps.trans {} (State.offerRoute_seatKeeps _ seat seat)
  simp only [State.itemAction]
  split
  case h_1 =>
    split
    · exact s.deny_seatKeeps seat
    next hpush =>
      obtain ⟨hpage, hroom⟩ := not_or.mp hpush
      exact (s.pushPage_seatKeeps seat (Nat.not_le.mp hpage) (Nat.not_le.mp hroom)).requestChime _
  case h_2 => exact (s.popPage_seatKeeps seat).requestChime _
  case h_3 => exact (s.setMenu_seatKeeps seat fun _ => StackSound.nil).requestChime _
  case h_4 =>
    unfold State.routeAction
    split
    · exact (routed _).requestChime _
    · exact s.deny_seatKeeps seat
  case h_5 => exact (routed _).requestChime _
  case h_6 =>
    simp only [State.notifyAction]
    split
    · exact s.deny_seatKeeps seat
    · split
      · exact SeatKeeps.requestChime { notices := fun h => NoticeQueue.offerSelect_sound h _ _ _ } _
      · exact s.deny_seatKeeps seat
  case h_7 => exact (SeatKeeps.refl seat s).requestChime _
  case h_8 => exact s.deny_seatKeeps seat

theorem State.selectKey_seatKeeps (s : State) (seat : Side) : SeatKeeps seat s (s.selectKey seat) := by
  unfold State.selectKey
  split
  · exact .refl seat s
  · simp only
    split
    · exact s.deny_seatKeeps seat
    · split
      · exact s.itemAction_seatKeeps _ _ _
      · exact s.deny_seatKeeps seat

theorem State.volumeKey_seatKeeps (s : State) (seat : Side) (up : Bool) : SeatKeeps seat s (s.volumeKey seat up) := by
  simp only [State.volumeKey]
  refine SeatKeeps.trans ?_ (State.setMenu_seatKeeps _ seat id)
  split <;> split <;> exact {}

theorem State.keyEffect_seatKeeps (s : State) (seat : Side) (key : Key) : SeatKeeps seat s (s.keyEffect seat key) := by
  cases key with
  | menu => exact s.menuKey_seatKeeps seat
  | up => exact s.moveKey_seatKeeps seat fun _ _ _ _ => upFrom_lt
  | down => exact s.moveKey_seatKeeps seat fun _ _ _ _ => downFrom_lt
  | select => exact s.selectKey_seatKeeps seat
  | back => exact s.popPage_seatKeeps seat
  | volUp => exact s.volumeKey_seatKeeps seat true
  | volDown => exact s.volumeKey_seatKeeps seat false

/-- Only an open seat gets a timeout (R132). -/
theorem State.setTimeout_sound {seat : Side} (h : StackSound (s.menus.get seat).stack) :
    ((s.setTimeout seat).menus.get seat).sound = true := by
  simp only [State.setTimeout, State.setMenu_menus, Pair.get_set_same]
  rw [Menu.sound_iff]
  refine ⟨h, fun htime hclosed => htime ?_⟩
  simp only [show (s.menuOf seat).stack = [] from hclosed]

/-- The timeout completes an effect on a seat's menu. -/
theorem SeatKeeps.setTimeout (h : SeatKeeps seat s t) : Keeps s (t.setTimeout seat) where
  toKeepsMost := h.toKeepsMost.trans {}
  camera := h.camera
  menus hm e := by
    by_cases he : e = seat
    · subst he
      exact State.setTimeout_sound (h.stack ((Menu.sound_iff _).mp (hm e)).1)
    · have hother : (t.setTimeout seat).menus.get e = s.menus.get e :=
        (Pair.get_set_other _ _ he).trans (h.other e he)
      rw [hother]
      exact hm e

theorem State.pressKey_keeps (s : State) (seat : Side) (key : Key) : Keeps s (s.pressKey seat key) :=
  (s.keyEffect_seatKeeps seat key).setTimeout

/-! Key pins (R122, R123) -/

theorem State.setKey_keeps (s : State) (seat : Side) (key : Key) (d : Debouncer) : Keeps s (s.setKey seat key d) :=
  s.setMenu_keeps seat id

theorem State.setRepeat_keeps (s : State) (seat : Side) (key : Key) (n : Option Nat) : Keeps s (s.setRepeat seat key n) :=
  s.setMenu_keeps seat id

theorem State.handPress_keeps (s : State) (seat : Side) (key : Key) : Keeps s (s.handPress seat key) := by
  unfold State.handPress
  split
  · exact (s.setRepeat_keeps ..).trans (State.pressKey_keeps _ seat key)
  · exact s.pressKey_keeps seat key

theorem State.keySample_keeps (s : State) (seat : Side) (key : Key) (high : Bool) : Keeps s (s.keySample seat key high) := by
  simp only [State.keySample]
  split
  · exact s.setKey_keeps ..
  · split
    · split
      · exact (s.setKey_keeps ..).trans (State.handPress_keeps _ seat key)
      · exact s.setKey_keeps ..
    · exact (s.setKey_keeps ..).trans (State.setRepeat_keeps ..)

theorem State.keySamples_keeps (s : State) (seat : Side) (key : Key) (samples : List Bool) :
    Keeps s (samples.foldl (fun s x => s.keySample seat key x) s) := by
  induction samples generalizing s with
  | nil => exact .refl s
  | cons x rest ih => exact (s.keySample_keeps seat key x).trans (ih _)

/-! Displays -/

theorem State.latchComposition_keeps (s : State) (d : Side) : Keeps s (s.latchComposition d) := by
  have exchanged : Keeps s (s.setGroup (composeOf d) (s.tables.group (composeOf d)).frameStart) := {}
  simp only [State.latchComposition]
  split
  · exact (exchanged.trans (State.offerGroup_keeps _ _ _)).trans (State.setDisp_keeps _ d id)
  · exact exchanged.trans (State.setDisp_keeps _ d id)

theorem State.latchRoute_keeps (s : State) (d : Side) : Keeps s (s.latchRoute d) := by
  have read : ∀ route, Keeps s (s.setDisp d ((s.disp.get d).readerStart route)) :=
    fun route => s.setDisp_keeps d fun h => Display.takeRoute_storeSound h route
  simp only [State.latchRoute]
  split
  · exact read _
  · exact (read _).trans (State.offerPictureNotice_keeps _ d _)

theorem State.latchMirror_keeps (s : State) (d : Side) : Keeps s (s.latchMirror d) := by
  unfold State.latchMirror
  split
  · exact .refl s
  · split
    · exact Keeps.trans {} (State.offerPicture_keeps _ _)
    · exact {}

theorem State.latchMenu_keeps (s : State) (d : Side) : Keeps s (s.latchMenu d) := s.setDisp_keeps d id

theorem State.displayFrameStart_keeps (s : State) (d : Side) : Keeps s (s.displayFrameStart d) :=
  (((s.latchComposition_keeps d).trans (State.latchRoute_keeps _ d)).trans (State.latchMenu_keeps _ d)).trans
    (State.latchMirror_keeps _ d)

theorem State.windowRow_keeps (s : State) (d : Side) (scale r : Nat) : Keeps s (s.windowRow d scale r).1 := by
  have moved : ∀ reader, Keeps s (s.setDisp d { s.disp.get d with reader := reader }) :=
    fun reader => s.setDisp_keeps d id
  simp only [State.windowRow]
  split
  · exact .refl s
  · split
    · exact moved _
    · split
      next y _ => exact (s.setDisp_keeps d fun h => Display.drawLine_storeSound h y _ _).trans (State.bump_keeps _ _ _)
      next =>
        split
        · exact (moved _).trans (State.offerPictureNotice_keeps _ d .stalled)
        · exact moved _

theorem State.readRow_keeps (s : State) (d : Side) (comp : Table) (y : Nat) : Keeps s (s.readRow d comp y).1 := by
  unfold State.readRow
  split
  · exact .refl s
  · exact s.windowRow_keeps _ _ _

theorem State.mirrorRow_keeps (s : State) (d : Side) (y : Nat) : Keeps s (s.mirrorRow d y) := by
  unfold State.mirrorRow
  split
  · exact s.offerPicture_keeps _
  · exact .refl s

theorem State.putRow_keeps (s : State) (d : Side) (comp : Table) (row : Option RowSource) (y : Nat) :
    Keeps s (s.putRow d comp row y) := s.setDisp_keeps d id

theorem State.activeRow_keeps (s : State) (d : Side) (comp : Table) (y : Nat) : Keeps s (s.activeRow d comp y) :=
  ((s.readRow_keeps d comp y).trans (State.putRow_keeps _ d comp _ y)).trans (State.mirrorRow_keeps _ d y)

theorem State.windowBottom_keeps (s : State) (d : Side) : Keeps s (s.setDisp d (s.disp.get d).windowBottom) := by
  refine s.setDisp_keeps d fun h => Display.storeSound_of_places h ?_
  simp only [Display.windowBottom]
  split
  · exact places_filter _ _
  · exact List.Sublist.refl _

/-! The sample tick (R150) -/

theorem State.tickSources_keeps (hl : s.tables.legal = true) : Keeps s s.tickSources where
  rings h p := by
    fin_cases p
    exacts [Ring.claim_sound (h 0) _, Ring.claim_sound (h 1) _, Ring.claim_sound (h 2) _, Ring.claim_sound (h 3) _]
  outlets h o := by
    have hticked := State.tickOutlet_sound hl o (h o)
    cases o <;> exact hticked

theorem State.giveFrame_keeps (s : State) (p : Prog) : Keeps s (s.giveFrame p) := by
  simp only [State.giveFrame]
  split
  next hplay =>
    have hrouted : (s.rings.get p).state ≠ .unrouted := by rw [hplay]; decide
    split
    next x rest hframes =>
      refine s.setRing_keeps p fun h => ?_
      rw [Ring.sound_iff, hframes, List.length_cons] at h
      rw [Ring.sound_iff]
      exact ⟨Nat.le_of_succ_le h.1, fun hu => absurd hu hrouted⟩
    next hframes =>
      refine ((s.bump_keeps _ _).trans (State.setRing_keeps _ p fun _ => ?_)).trans (State.offerSound_keeps _ p .priming)
      rw [Ring.sound_iff]
      exact ⟨by simp only [hframes]; exact Nat.zero_le _, fun hu => absurd hu (by simp)⟩
  next => exact .refl s

theorem State.giveFrames_keeps (s : State) : Keeps s s.giveFrames :=
  (((s.giveFrame_keeps 0).trans (State.giveFrame_keeps _ 1)).trans (State.giveFrame_keeps _ 2)).trans
    (State.giveFrame_keeps _ 3)

/-- A new output frame leaves an outlet's levels. -/
theorem State.mix_keeps (s : State) (frames : Quad Stereo) : Keeps s (s.mix frames) := by
  have put : ∀ a b c : Stereo, Keeps s { s with outlets :=
      ⟨{ s.outlets.zoneA with out := a }, { s.outlets.zoneB with out := b }, { s.outlets.cabin with out := c }⟩ } :=
    fun a b c => { outlets := fun h o => by have ho := h o; cases o <;> exact ho }
  exact (((put _ _ _).trans (State.bump_keeps _ _ _)).trans (State.bump_keeps _ _ _)).trans (State.bump_keeps _ _ _)

theorem State.sampleTick_keeps (hl : s.tables.legal = true) : Keeps s s.sampleTick := by
  have ended : Keeps s s.settleEnds := {}
  have advanced : ∀ u : State, Keeps u u.advanceVoices := fun u => {}
  exact (((ended.trans (State.tickSources_keeps (s := s.settleEnds) hl)).trans (State.giveFrames_keeps _)).trans
    (State.mix_keeps _ _)).trans (advanced _)

/-! Requests -/

theorem State.putWords_keeps (s : State) (i : TableId) (k : Nat) (ws : List Word) : Keeps s (s.putWords i k ws) := by
  cases i
  case control =>
    simp only [State.putWords, State.putControl]
    split
    · exact Keeps.trans {} (State.evalReverse_keeps _)
    · exact {}
  case steering =>
    simp only [State.putWords, State.putSteering]
    split
    · exact Keeps.trans {} (State.setSteer_keeps _ _)
    · exact {}
  all_goals exact {}

theorem State.put_keeps (s : State) (ws : List Word) : Keeps s (s.put ws).state := by
  have ready : Keeps s (s.readyFor s.unit.pointer.table) := by
    unfold State.readyFor
    split <;> exact {}
  have written : ∀ (u : State) (i : TableId) (k : Nat) (run : List Word),
      Keeps u ((if run = [] then u else u.putWords i k run).setPointer i (k + run.length)) := by
    intro u i k run
    split
    · exact {}
    · exact (u.putWords_keeps i k run).trans {}
  simp only [State.put]
  split
  · exact ready
  · split <;> exact ready.trans (written _ _ _ _)

theorem State.commit_keeps (s : State) (g : GroupId) : Keeps s (s.commit g).state := by
  simp only [State.commit]
  split
  · exact .refl s
  · split
    · exact .refl s
    · split
      · exact {}
      · exact Keeps.trans {} (State.offerGroup_keeps _ g _)

theorem RequestName.body_keeps (n : RequestName) (r : QueuedRequest) (s : State) : Keeps s (n.body r s).state := by
  cases n
  case point =>
    simp only [RequestName.body, pointBody]
    split
    · exact .refl s
    · split <;> exact {}
  case put => exact s.put_keeps _
  case get =>
    simp only [RequestName.body, getBody, State.get]
    split <;> exact {}
  case commit => exact s.commit_keeps _
  case start =>
    simp only [RequestName.body, startBody]
    split <;> exact {}
  case restart => exact .refl s
  case vehicle => exact Keeps.trans {} (State.evalReverse_keeps _)
  case view => exact Keeps.trans {} (State.refreshView_keeps _)
  case hold => exact s.setHoldRequest_keeps true
  case release =>
    simp only [RequestName.body, releaseBody]
    split
    · exact .refl s
    · exact s.setHoldRequest_keeps false
  case key => exact s.pressKey_keeps _ _
  case openPage =>
    simp only [RequestName.body, openPageBody]
    split
    · exact .refl s
    next hpush =>
      obtain ⟨hpage, hroom⟩ := not_or.mp hpush
      exact (s.pushPage_seatKeeps _ (Nat.not_le.mp hpage) (Nat.not_le.mp hroom)).setTimeout
  case chime =>
    simp only [RequestName.body, chimeBody]
    split <;> exact {}
  case stopChime => exact {}
  case resume =>
    simp only [RequestName.body, resumeBody]
    split
    · exact s.setDisp_keeps _ id
    · exact .refl s

theorem State.dequeue_keeps (s : State) : Keeps s s.dequeue where
  requests h := decide_eq_true ((List.tail_sublist _).length_le.trans (of_decide_eq_true h))

theorem State.serve_keeps (s : State) (n : RequestName) : Keeps s (s.serve n n.body) := by
  unfold State.serve
  split
  · exact .refl s
  · split
    · refine s.dequeue_keeps.trans (Keeps.trans ?_ (State.finish_keeps _ _ _ _ _))
      unfold State.answer
      split
      · exact .refl _
      · exact n.body_keeps _ _
    · exact .refl s

/-! Resets and restarts -/

/-- Every block at its reset value is sound; the free-run timer runs unless a reset holds the part. -/
theorem State.blank_keeps (s : State) (held : Option ResetKind) (strap : BitVec 4) (autocam : Bool) (cause : ResetCause)
    (sending : List Word) (freeRun : Option Nat) (outs : PerOutlet Stereo) (pending : List Instr)
    (hrun : held = none → freeRun ≠ none) :
    Keeps s (State.blank held strap autocam cause sending freeRun outs pending) where
  stores _ d := by cases d <;> rfl
  hold _ := rfl
  notices _ := rfl
  requests _ := rfl
  rings _ p := by fin_cases p <;> rfl
  outlets _ o := by cases o <;> rfl
  camera _ := by
    rw [CameraInput.sound_iff]
    exact .of_noSignal rfl (Nat.zero_le _) (Nat.zero_le _) (Nat.zero_le _) rfl
      (fun hlive => hrun (Option.isNone_iff_eq_none.mp hlive)) rfl nofun
  menus _ d := by cases d <;> rfl

theorem State.completeGroup_keeps (s : State) (g : GroupId) : Keeps s (s.completeGroup g) := by
  simp only [State.completeGroup]
  split
  · exact Keeps.trans {} (State.offerGroup_keeps _ g _)
  · exact {}

theorem State.stopDisplay_keeps (s : State) (d : Side) : Keeps s (s.stopDisplay d) := by
  have stopped : Keeps s (s.setDisp d stoppedDisplay) := s.setDisp_keeps d fun _ => rfl
  simp only [State.stopDisplay]
  split
  · exact stopped
  · exact stopped.trans (State.offerPictureNotice_keeps _ d .noSource)

theorem State.stopMediaSide_keeps (s : State) : Keeps s s.stopMediaSide where
  rings _ p := by fin_cases p <;> rfl
  outlets h o := by
    have hduck := ((OutletState.sound_iff _).mp (h o)).2
    cases o <;> exact (OutletState.sound_iff _).mpr ⟨Nat.zero_le _, hduck⟩
  menus _ d := by cases d <;> rfl

theorem State.mediaRestart_keeps (s : State) : Keeps s s.mediaRestart :=
  (((s.stopMediaSide_keeps.trans (State.completeGroup_keeps _ .composeA)).trans
    (State.completeGroup_keeps _ .composeB)).trans (State.stopDisplay_keeps _ .a)).trans (State.stopDisplay_keeps _ .b)

/-! Every command -/

theorem whenLive_keeps {f : State → State} (ht : whenLive s f = .next t) (hf : s.held = none → Keeps s (f s)) :
    Keeps s t := by
  cases ht
  split
  next hs => exact hf hs
  next => exact .refl s

theorem exec_keeps (hl : s.tables.legal = true) (c : Instr) (ht : exec c s = .next t) : Keeps s t := by
  have received : ∀ words, (whenLive s fun s => s.receive words) = .next t → Keeps s t :=
    fun words h => whenLive_keeps h fun _ => s.receive_keeps words
  have served : ∀ n : RequestName, exec n.command s = .next t → Keeps s t :=
    fun n h => whenLive_keeps (exec_command n s ▸ h) fun _ => s.serve_keeps n
  cases c
  all_goals simp only [exec] at ht
  case powerOnReset => cases ht; exact s.blank_keeps _ _ _ _ _ _ _ _ nofun
  case pinReset => cases ht; exact s.blank_keeps _ _ _ _ _ _ _ _ nofun
  case resetRelease stn autocam =>
    cases ht
    split
    · exact s.blank_keeps _ _ _ _ _ _ _ _ fun _ => Option.some_ne_none _
    · exact .refl s
  case fullRestart =>
    refine whenLive_keeps ht fun _ => ?_
    split
    · exact s.blank_keeps _ _ _ _ _ _ _ _ fun _ => Option.some_ne_none _
    · exact .refl s
  case mediaRestart =>
    refine whenLive_keeps ht fun _ => ?_
    split
    · exact s.mediaRestart_keeps
    · exact .refl s
  case discardedParcel words => exact received words ht
  case fill words => exact received words ht
  case pictureLine words => exact received words ht
  case pictureMark words => exact received words ht
  case sound words => exact received words ht
  case request words => exact received words ht
  case silenceTimerExpiry =>
    refine whenLive_keeps ht fun _ => ?_
    split
    · exact s.linkDown_keeps
    · exact .refl s
  case parcelEnd => exact whenLive_keeps ht fun _ => s.beginParcel_keeps
  case replyHandoff =>
    refine whenLive_keeps ht fun _ => ?_
    split
    · exact s.handOff_keeps _
    · exact .refl s
  case point => exact served .point ht
  case put => exact served .put ht
  case get => exact served .get ht
  case commit => exact served .commit ht
  case start => exact served .start ht
  case restart => exact served .restart ht
  case vehicle => exact served .vehicle ht
  case view => exact served .view ht
  case hold => exact served .hold ht
  case release => exact served .release ht
  case key => exact served .key ht
  case openPage => exact served .openPage ht
  case chime => exact served .chime ht
  case stopChime => exact served .stopChime ht
  case resume => exact served .resume ht
  case displayFrameStart d =>
    refine whenLive_keeps ht fun _ => ?_
    split
    · exact s.displayFrameStart_keeps d
    · exact .refl s
  case windowTop d =>
    refine whenLive_keeps ht fun _ => ?_
    split
    · exact s.setDisp_keeps d id
    · exact .refl s
  case activeRow d =>
    refine whenLive_keeps ht fun _ => ?_
    split
    · exact s.activeRow_keeps d _ _
    · exact .refl s
  case windowBottom d =>
    refine whenLive_keeps ht fun _ => ?_
    split
    · exact (s.windowBottom_keeps d).trans (State.bump_keeps _ _ _)
    · exact .refl s
  case filterSample a b ix => exact whenLive_keeps ht fun _ => s.setSteer_keeps _
  case frameSync hs => exact whenLive_keeps ht fun hlive => State.frameSync_keeps hlive _
  case lineSync clocks =>
    refine whenLive_keeps ht fun hlive => ?_
    split
    · exact .of_camera hlive {} ⟨rfl, rfl⟩ CameraInput.lineSync_sound
    · exact .refl s
  case syncWatchExpiry =>
    refine whenLive_keeps ht fun hlive => ?_
    split
    · exact .refl s
    · split
      · exact State.watchLocked_keeps hlive
      next hstate => exact State.watchAcquiring_keeps hlive hstate
      · exact .refl s
  case freeRunExpiry =>
    refine whenLive_keeps ht fun hlive => ?_
    split
    · exact .refl s
    next hrun => exact State.freeRun_keeps hlive (by simpa using hrun) _
  case cameraRow pixels =>
    refine whenLive_keeps ht fun hlive => ?_
    split
    next y hy =>
      obtain ⟨n, hframe⟩ := CameraInput.rowDue_frame hy
      exact State.completeRow_keeps hlive hframe y _
    next => exact .refl s
  case fillRow =>
    refine whenLive_keeps ht fun hlive => ?_
    split
    next y hy =>
      obtain ⟨n, hframe⟩ := CameraInput.timedRow_frame hy
      exact State.completeRow_keeps hlive hframe y _
    next => exact .refl s
  case generatedRow =>
    refine whenLive_keeps ht fun hlive => ?_
    split
    next y hy =>
      obtain ⟨n, hframe⟩ := CameraInput.timedRow_frame hy
      exact State.completeRow_keeps hlive hframe y _
    next => exact .refl s
  case rowDrawn =>
    refine whenLive_keeps ht fun hlive => ?_
    split
    · exact .refl s
    next row rest hbuffer => exact State.rowDrawn_keeps hlive hbuffer _
  case reverseLevelChange samples => exact whenLive_keeps ht fun _ => s.reverseSamples_keeps samples
  case calLevelChange samples => exact whenLive_keeps ht fun _ => s.calSamples_keeps samples
  case lingerExpiry =>
    refine whenLive_keeps ht fun _ => ?_
    split
    · exact s.changeReverse_keeps .off none
    · exact .refl s
  case press seat key samples => exact whenLive_keeps ht fun _ => s.keySamples_keeps seat key samples
  case keyRelease seat key samples => exact whenLive_keeps ht fun _ => s.keySamples_keeps seat key samples
  case repeatTimerExpiry seat key =>
    refine whenLive_keeps ht fun _ => ?_
    split
    · exact .refl s
    · split
      · exact (s.setRepeat_keeps seat key _).trans (State.pressKey_keeps _ seat key)
      · exact s.setRepeat_keeps seat key none
  case timeoutExpiry seat =>
    refine whenLive_keeps ht fun _ => ?_
    split
    · exact .refl s
    · exact s.setMenu_keeps seat fun _ => rfl
  case bannerExpiry seat => exact whenLive_keeps ht fun _ => s.setMenu_keeps seat id
  case sampleTick => exact whenLive_keeps ht fun _ => State.sampleTick_keeps hl
  case voiceNaturalEnd =>
    refine whenLive_keeps ht fun _ => ?_
    split <;> exact {}
  case releaseEnd =>
    refine whenLive_keeps ht fun _ => ?_
    split <;> exact {}
  case cabinTimeTick => exact whenLive_keeps ht fun _ => {}
  case unknownRequestName =>
    refine whenLive_keeps ht fun _ => ?_
    split
    · exact .refl s
    · split
      · exact s.dequeue_keeps.trans (State.finish_keeps _ _ _ _ _)
      · exact .refl s

theorem step_keeps (hl : s.tables.legal = true) (ht : step s = .next t) : Keeps s t := by
  unfold step at ht
  split at ht
  · cases ht; exact .refl s
  next c rest _ =>
    have taken : Keeps s { s with pending := rest } := {}
    exact taken.trans (exec_keeps (s := { s with pending := rest }) hl c ht)

end Steps

/-- Settles O60: every operation keeps each block sound, those on the camera and the menus once their event is complete;
the outlets' gains stay within unity because the volume words are legal. -/
theorem stepKeepsBlocksSound : Obligations.StepKeepsBlocksSound := by
  intro s t _ hlegal ht
  have k := step_keeps hlegal ht
  exact ⟨k.stores, k.hold, k.notices, k.requests, k.camera, k.menus, k.rings, k.outlets⟩

end Sys2Proof.Machine
end

section
/-! The reader of a line store at a frame start, at the window's edges and at a window row (O36, O38, O39). -/

namespace Sys2Proof.Machine

open Sys2Proof

/-! The frame start (R50, R56) -/

/-- The reader of a frame that is opened, at the tag of the oldest slot or the next tag (R50). -/
def Reader.opening (r : Reader) (store : List Slot) : Reader :=
  { r with
    picture := .playing
    openTag := (match store with
      | [] => r.openTag + 1
      | y :: _ => y.tag)
    phase := .before, nextLine := 0, misses := 0, lastRow := none, opened := true }

theorem Reader.openFrame_playing {r : Reader} (h : r.picture = .playing) (store : List Slot) :
    r.openFrame store.head? = r.opening store := by
  cases store <;> simp [Reader.openFrame, Reader.opening, h]

section FrameStart

variable {x : Display}

/-- With the latched route as before, the frame start begins at its second step. -/
theorem Display.readerStart_kept (x : Display) : x.readerStart x.reader.route =
    { x with reader := ((x.reader.takeResume).recover x.store.length).openFrame x.store.head? } := by
  simp [Display.readerStart, Display.takeRoute]

theorem Display.readerStart_routed {p : Prog} (h : some p ≠ x.reader.route) : x.readerStart (some p) = { x with
    store := [], reader := { x.reader with route := some p, resume := false }.opening [] } := by
  simp [Display.readerStart, Display.takeRoute, h, Reader.takeResume, Reader.recover, Reader.openFrame, Reader.opening]

theorem Display.readerStart_unrouted (h : none ≠ x.reader.route) : x.readerStart none = { x with
    store := [], reader := { x.reader with route := none, resume := false, picture := .noSource, opened := false } } := by
  simp [Display.readerStart, Display.takeRoute, h, Reader.takeResume, Reader.recover, Reader.openFrame]

theorem Display.readerStart_playing (h : x.reader.picture = .playing) :
    x.readerStart x.reader.route = { x with reader := x.reader.opening x.store } := by
  have hr : (x.reader.takeResume).recover x.store.length = x.reader := by
    simp [Reader.takeResume, Reader.recover, h]
  rw [Display.readerStart_kept, hr, Reader.openFrame_playing h]

/-- A HALTED display whose resume flag is set plays. -/
theorem Display.readerStart_resumed (h : x.reader.picture = .halted) (hresume : x.reader.resume = true) :
    x.readerStart x.reader.route = { x with reader := { x.reader with resume := false }.opening x.store } := by
  have hr : (x.reader.takeResume).recover x.store.length = { x.reader with resume := false, picture := .playing } := by
    simp [Reader.takeResume, Reader.recover, h, hresume]
  rw [Display.readerStart_kept, hr, Reader.openFrame_playing rfl]
  rfl

/-- A STALLED display with 8 slots recovers. -/
theorem Display.readerStart_recovered (h : x.reader.picture = .stalled) (hslots : 8 ≤ x.store.length) :
    x.readerStart x.reader.route = { x with reader := x.reader.opening x.store } := by
  have hr : (x.reader.takeResume).recover x.store.length = { x.reader with picture := .playing } := by
    simp [Reader.takeResume, Reader.recover, h, hslots]
  rw [Display.readerStart_kept, hr, Reader.openFrame_playing rfl]
  rfl

/-- A STALLED display with fewer slots waits, for this frame before its window again (R56). -/
theorem Display.readerStart_stalled (h : x.reader.picture = .stalled) (hslots : ¬ 8 ≤ x.store.length) :
    x.readerStart x.reader.route = { x with reader := { x.reader with phase := .before, opened := false } } := by
  have hr : (x.reader.takeResume).recover x.store.length = x.reader := by
    simp only [Reader.takeResume, Reader.recover, Config.recoverSlots_eq, h, hslots]; simp
  simp only [Display.readerStart_kept, hr, Reader.openFrame, h]

theorem Display.readerStart_halted (h : x.reader.picture = .halted) (hresume : x.reader.resume = false) :
    x.readerStart x.reader.route = { x with reader := { x.reader with opened := false } } := by
  have hr : (x.reader.takeResume).recover x.store.length = x.reader := by
    simp [Reader.takeResume, Reader.recover, h, hresume]
  simp only [Display.readerStart_kept, hr, Reader.openFrame, h]

theorem Display.readerStart_noSource (h : x.reader.picture = .noSource) :
    x.readerStart x.reader.route = { x with reader := { x.reader with opened := false } } := by
  have hr : (x.reader.takeResume).recover x.store.length = x.reader := by
    simp [Reader.takeResume, Reader.recover, h]
  simp only [Display.readerStart_kept, hr, Reader.openFrame, h]

end FrameStart

/-- Settles O36: a changed route first, then each picture state under the route as it was. -/
theorem readerFrameStart : Obligations.ReaderFrameStart := by
  intro x route
  by_cases hroute : route = x.reader.route
  · subst hroute
    cases hp : x.reader.picture with
    | playing => simp [Display.readerStart_playing hp, Reader.opening, hp] <;> rfl
    | noSource => simp [Display.readerStart_noSource hp, hp]
    | halted =>
      cases hresume : x.reader.resume with
      | true => simp [Display.readerStart_resumed hp hresume, Reader.opening, hp, hresume] <;> rfl
      | false => simp [Display.readerStart_halted hp hresume, hp, hresume]
    | stalled =>
      by_cases hslots : 8 ≤ x.store.length
      · simp [Display.readerStart_recovered hp hslots, Reader.opening, hp, hslots] <;> rfl
      · simp [Display.readerStart_stalled hp hslots, hp, hslots]
  · cases route with
    | none => simp [Display.readerStart_unrouted hroute, hroute]
    | some p => simp [Display.readerStart_routed hroute, Reader.opening, hroute]

/-! The window's edges (R51, R55, R63) -/

theorem Display.topDue_eq {x : Display} {r : Raster} {c : Table} (hr : x.raster = some r) (hc : x.comp = some c) :
    x.topDue = (decide (r.row = c.nat 2) && !r.top) := by
  simp only [Display.topDue, hr, hc]; rfl

theorem Display.bottomDue_eq {x : Display} {r : Raster} {c : Table} (hr : x.raster = some r) (hc : x.comp = some c) :
    x.bottomDue = (r.top && decide (r.row = c.nat 2 + c.nat 4) && !r.bottom) := by
  simp only [Display.bottomDue, hr, hc]; rfl

/-- Without a raster or a latched composition neither edge comes. -/
theorem Display.edges_notDue {x : Display} (h : x.raster = none ∨ x.comp = none) :
    x.topDue = false ∧ x.bottomDue = false := by
  unfold Display.topDue Display.bottomDue
  rcases h with h | h
  · rw [h]; exact ⟨rfl, rfl⟩
  · rw [h]; cases x.raster <;> exact ⟨rfl, rfl⟩

section Edges

variable {s : State} {d : Side}

theorem exec_windowTop_due (hs : s.held = none) (hm : s.media = true) (hdue : (s.disp.get d).topDue = true) :
    exec (.windowTop d) s = .next (s.setDisp d (s.disp.get d).windowTop) := by
  rw [exec, execWindowTop, whenLive_live hs, hm, hdue]; rfl

theorem exec_windowTop_notDue (hs : s.held = none) (h : s.media = false ∨ (s.disp.get d).topDue = false) :
    exec (.windowTop d) s = .next s := by
  have hboth : (s.media && (s.disp.get d).topDue) = false := Bool.and_eq_false_iff.mpr h
  rw [exec, execWindowTop, whenLive_live hs, hboth]; rfl

theorem exec_windowBottom_due (hs : s.held = none) (hm : s.media = true) (hdue : (s.disp.get d).bottomDue = true) :
    exec (.windowBottom d) s = .next ((s.setDisp d (s.disp.get d).windowBottom).bump (cntUnused d)
      (s.disp.get d).unusedAtBottom) := by
  rw [exec, execWindowBottom, whenLive_live hs, hm, hdue]; rfl

theorem exec_windowBottom_notDue (hs : s.held = none) (h : s.media = false ∨ (s.disp.get d).bottomDue = false) :
    exec (.windowBottom d) s = .next s := by
  have hboth : (s.media && (s.disp.get d).bottomDue) = false := Bool.and_eq_false_iff.mpr h
  rw [exec, execWindowBottom, whenLive_live hs, hboth]; rfl

end Edges

theorem Display.windowTop_eq {x : Display} {r : Raster} (hr : x.raster = some r) : x.windowTop = { x with
    raster := some { r with top := true }
    reader := if x.reader.opened then { x.reader with phase := .inside } else x.reader } := by
  rw [Display.windowTop, hr]; rfl

theorem Display.windowBottom_eq {x : Display} {r : Raster} (hr : x.raster = some r) : x.windowBottom = { x with
    raster := some { r with bottom := true }
    store := if x.reader.opened then x.store.filter fun y => decide (y.tag ≠ x.reader.openTag) else x.store
    reader := if x.reader.opened then { x.reader with phase := .after } else x.reader } := by
  rw [Display.windowBottom, hr]; rfl

theorem State.bump_zero (s : State) (i : Nat) : s.bump i 0 = s := rfl

/-- Settles O38: the edge that is due acts on an opened frame and only marks the raster on another; nothing else is due. -/
theorem windowTopAndBottom : Obligations.WindowTopAndBottom := by
  intro s d hs x moved
  have hmedia : s.unit.service = .media → s.media = true := fun h => decide_eq_true h
  refine ⟨fun r c hm hr hc => ⟨fun hrow htop => ?_, fun hrow htop hbottom => ?_⟩,
    fun r c hr hc => ⟨fun hnot => ?_, fun hnot => ?_⟩, fun hnot => ?_⟩
  · have hdue : x.topDue = true := by simp [Display.topDue_eq hr hc, hrow, htop]
    rw [exec_windowTop_due hs (hmedia hm) hdue, Display.windowTop_eq hr]
    exact ⟨fun hopen => by rw [if_pos hopen]; rfl, fun hshut => by rw [if_neg (by simp [hshut])]; rfl⟩
  · have hdue : x.bottomDue = true := by simp [Display.bottomDue_eq hr hc, hrow, htop, hbottom]
    rw [exec_windowBottom_due hs (hmedia hm) hdue, Display.windowBottom_eq hr, Display.unusedAtBottom]
    refine ⟨fun hopen => ?_, fun hshut => ?_⟩
    · rw [if_pos hopen, if_pos hopen, if_pos hopen]
      cases d <;> rfl
    · have hno : ¬ (s.disp.get d).reader.opened = true := by rw [show (s.disp.get d).reader.opened = false from hshut]; decide
      rw [if_neg hno, if_neg hno, if_neg hno, State.bump_zero]
      rfl
  · refine exec_windowTop_notDue hs (.inr ?_)
    rw [Display.topDue_eq hr hc]
    rcases hnot with h | h <;> simp [h]
  · refine exec_windowBottom_notDue hs (.inr ?_)
    rw [Display.bottomDue_eq hr hc]
    rcases hnot with h | h | h <;> simp [h]
  · rcases hnot with hcam | hnone
    · have hm : s.media = false := by simp [State.media, hcam]
      exact ⟨exec_windowTop_notDue hs (.inl hm), exec_windowBottom_notDue hs (.inl hm)⟩
    · obtain ⟨htop, hbottom⟩ := Display.edges_notDue hnone
      exact ⟨exec_windowTop_notDue hs (.inr htop), exec_windowBottom_notDue hs (.inr hbottom)⟩

/-! Window rows (R52 to R54) -/

/-- In a store that holds no line twice a slot is known by its line. -/
theorem isLine_iff_eq {store : List Slot} (hdistinct : slotsDistinct store = true) {y z : Slot} (hy : y ∈ store)
    (hz : z ∈ store) : z.isLine y.tag y.line = true ↔ z = y := by
  rw [slotsDistinct_iff] at hdistinct
  constructor
  · intro h
    have hplace : z.place = y.place := Prod.ext_iff.mpr (of_decide_eq_true h)
    exact List.inj_on_of_nodup_map hdistinct hz hy hplace
  · rintro rfl
    exact decide_eq_true ⟨rfl, rfl⟩

theorem find_isLine {store : List Slot} (hdistinct : slotsDistinct store = true) {y : Slot} (hy : y ∈ store) :
    store.find? (fun z => z.isLine y.tag y.line) = some y := by
  cases hf : store.find? (fun z => z.isLine y.tag y.line) with
  | none => exact absurd ((isLine_iff_eq hdistinct hy hy).mpr rfl) (List.find?_eq_none.mp hf y hy)
  | some z =>
    have hline : z.isLine y.tag y.line = true := List.find?_some (p := fun z : Slot => z.isLine y.tag y.line) hf
    rw [(isLine_iff_eq hdistinct hy (List.mem_of_find?_eq_some hf)).mp hline]

/-- A drawn line frees the lines before it, and itself after its last row (R53). -/
theorem Display.drawLine_eq {x : Display} (hdistinct : slotsDistinct x.store = true) {y : Slot} (hy : y ∈ x.store)
    (htag : y.tag = x.reader.openTag) (next : Nat) : x.drawLine y y.line next = { x with
      store := if y.line < next then x.store.filter fun z => !(decide (z.tag = x.reader.openTag ∧ z.line ≤ y.line))
        else (x.store.filter fun z => !(decide (z.tag = x.reader.openTag ∧ z.line < y.line))).map fun z =>
          if z = y then { z with drawn := true } else z
      reader := { x.reader with lastRow := some y.pixels, misses := 0, nextLine := next } } := by
  have hfreed : ∀ z : Slot, (!z.isLine x.reader.openTag y.line && !decide (z.tag = x.reader.openTag ∧ z.line < y.line)) =
      !decide (z.tag = x.reader.openTag ∧ z.line ≤ y.line) := by
    intro z
    rw [Slot.isLine, ← Bool.not_or, ← Bool.decide_or]
    exact congrArg (!·) (decide_eq_decide.mpr (by rw [← and_or_left, ← le_iff_eq_or_lt]))
  have hdrawn : ∀ z ∈ x.store.filter fun z => !(decide (z.tag = x.reader.openTag ∧ z.line < y.line)),
      (if z.isLine x.reader.openTag y.line then { z with drawn := true } else z) =
        if z = y then { z with drawn := true } else z := by
    intro z hz
    simp only [← htag, isLine_iff_eq hdistinct hy (List.mem_of_mem_filter hz)]
  simp only [Display.drawLine, List.filter_filter, hfreed, List.map_congr_left hdrawn]

section WindowRow

variable {s : State} {d : Side} {scale r : Nat}

/-- A frame that is not opened, or not PLAYING, is fill (R50, R56). -/
theorem State.windowRow_shut (h : (s.disp.get d).reader.opened = false ∨ (s.disp.get d).reader.picture ≠ .playing) :
    s.windowRow d scale r = (s, .fill) := if_pos h

theorem reader_open {rd : Reader} (hopen : rd.opened = true) (hplay : rd.picture = .playing) :
    ¬ (rd.opened = false ∨ rd.picture ≠ .playing) := by
  simp [hopen, hplay]

/-- A line the programme does not have is fill without a miss (R52). -/
theorem State.windowRow_beyond (hopen : (s.disp.get d).reader.opened = true)
    (hplay : (s.disp.get d).reader.picture = .playing) (hline : s.sourceHeight (s.disp.get d).reader ≤ r / scale) :
    s.windowRow d scale r = (s.setDisp d { s.disp.get d with
      reader := { (s.disp.get d).reader with nextLine := (r + 1) / scale } }, .fill) := by
  simp only [State.windowRow]
  rw [if_neg (reader_open hopen hplay), if_pos hline]

theorem State.windowRow_held (hopen : (s.disp.get d).reader.opened = true)
    (hplay : (s.disp.get d).reader.picture = .playing) (hline : r / scale < s.sourceHeight (s.disp.get d).reader)
    {y : Slot} (hy : (s.disp.get d).store.find? (fun z => z.isLine (s.disp.get d).reader.openTag (r / scale)) = some y) :
    s.windowRow d scale r = ((s.setDisp d ((s.disp.get d).drawLine y (r / scale) ((r + 1) / scale))).bump (cntSkipped d)
      ((s.disp.get d).skipped (r / scale)), .pixels y.pixels) := by
  simp only [State.windowRow]
  rw [if_neg (reader_open hopen hplay), if_neg (Nat.not_le.mpr hline), hy]

/-- The row that stands in for a missing line (R54). -/
def Reader.repeated (rd : Reader) : RowSource :=
  match rd.lastRow with
  | some row => .pixels row
  | none => .fill

theorem State.windowRow_missing (hopen : (s.disp.get d).reader.opened = true)
    (hplay : (s.disp.get d).reader.picture = .playing) (hline : r / scale < s.sourceHeight (s.disp.get d).reader)
    (hnone : (s.disp.get d).store.find? (fun z => z.isLine (s.disp.get d).reader.openTag (r / scale)) = none)
    (hmiss : (s.disp.get d).reader.misses + 1 < 8) :
    s.windowRow d scale r = (s.setDisp d { s.disp.get d with reader := { (s.disp.get d).reader with
      misses := (s.disp.get d).reader.misses + 1, nextLine := (r + 1) / scale } }, (s.disp.get d).reader.repeated) := by
  have hreader : (s.disp.get d).reader.miss ((r + 1) / scale) = { (s.disp.get d).reader with
      misses := (s.disp.get d).reader.misses + 1, nextLine := (r + 1) / scale } := if_neg (Nat.not_le.mpr hmiss)
  simp only [State.windowRow]
  rw [if_neg (reader_open hopen hplay), if_neg (Nat.not_le.mpr hline), hnone]
  simp only [hreader, hplay]
  rfl

/-- The eighth miss in a row stalls the display (R54). -/
theorem State.windowRow_stalls (hopen : (s.disp.get d).reader.opened = true)
    (hplay : (s.disp.get d).reader.picture = .playing) (hline : r / scale < s.sourceHeight (s.disp.get d).reader)
    (hnone : (s.disp.get d).store.find? (fun z => z.isLine (s.disp.get d).reader.openTag (r / scale)) = none)
    (hmiss : 8 ≤ (s.disp.get d).reader.misses + 1) :
    s.windowRow d scale r = ((s.setDisp d { s.disp.get d with reader := { (s.disp.get d).reader with
      misses := (s.disp.get d).reader.misses + 1, picture := .stalled } }).offerPictureNotice d .stalled, .fill) := by
  have hreader : (s.disp.get d).reader.miss ((r + 1) / scale) = { (s.disp.get d).reader with
      misses := (s.disp.get d).reader.misses + 1, picture := .stalled } := if_pos hmiss
  simp only [State.windowRow]
  rw [if_neg (reader_open hopen hplay), if_neg (Nat.not_le.mpr hline), hnone]
  simp only [hreader]
  rfl

end WindowRow

/-- Settles O39: the five ways a window row can go. -/
theorem windowRowReadsStore : Obligations.WindowRowReadsStore := by
  intro s d scale r _ x rd l next height u put
  have hheight : s.sourceHeight rd = height := rfl
  refine ⟨State.windowRow_shut, fun hopen hplay hline => State.windowRow_beyond hopen hplay hline,
    fun y hopen hplay hline hy htag hyl hdistinct => ?_, fun hopen hplay hline hnone => ?_⟩
  · have hfind : x.store.find? (fun z => z.isLine rd.openTag l) = some y := htag ▸ hyl ▸ find_isLine hdistinct hy
    have hrow := State.windowRow_held hopen hplay hline hfind
    have hdraw := Display.drawLine_eq hdistinct hy htag next
    rw [hyl] at hdraw
    refine ⟨congrArg Prod.snd hrow, (congrArg Prod.fst hrow).trans ?_⟩
    rw [hdraw]
    cases d <;> rfl
  · have hfind : x.store.find? (fun z => z.isLine rd.openTag l) = none :=
      List.find?_eq_none.mpr fun y hy hline => hnone y hy (of_decide_eq_true hline)
    exact ⟨fun hmiss => State.windowRow_missing hopen hplay hline hfind hmiss,
      fun hmiss => State.windowRow_stalls hopen hplay hline hfind hmiss⟩

end Sys2Proof.Machine
end

section
/-! Picture parcels reach the displays one after the other, each with its own store and counters (O7, O8). -/

namespace Sys2Proof.Machine

open Sys2Proof

/-! An operation on one display -/

/-- The operation touches one display, its five counters and the notices; nothing else. -/
structure ActsOn (d : Side) (s t : State) : Prop where
  frame    : t = { s with
    disp := t.disp, notices := t.notices, tables := { s.tables with stats := t.tables.stats } } := by rfl
  other    : ∀ e, e ≠ d → t.disp.get e = s.disp.get e := by exact fun _ _ => rfl
  counters : ∀ j, (∀ i, i < 5 → j ≠ cntMalformed d + i) → t.counter j = s.counter j := by exact fun _ _ => rfl
  wf       : s.tables.stats.wf = true → t.tables.stats.wf = true := by exact id

section Sides

variable {s t u : State} {d : Side}

theorem ActsOn.refl (d : Side) (s : State) : ActsOn d s s := {}

theorem State.setDisp_actsOn (s : State) (d : Side) (x : Display) : ActsOn d s (s.setDisp d x) where
  other _ he := Pair.get_set_other _ _ he

theorem State.bump_actsOn (s : State) (d : Side) {i : Nat} (hi : i < 5) (n : Nat) :
    ActsOn d s (s.bump (cntMalformed d + i) n) where
  counters _ hj := s.bump_counter_other n (hj i hi)
  wf h := countUp_wf h _ _

theorem ActsOn.trans (h : ActsOn d s t) (k : ActsOn d t u) : ActsOn d s u where
  frame := by
    have hu := k.frame
    rw [h.frame] at hu
    exact hu
  other e he := (k.other e he).trans (h.other e he)
  counters j hj := (k.counters j hj).trans (h.counters j hj)
  wf := k.wf ∘ h.wf

/-- The counters of one display are none of the other's. -/
theorem cntMalformed_apart {d e : Side} (hne : e ≠ d) {i j : Nat} (hi : i < 5) (hj : j < 5) :
    cntMalformed e + j ≠ cntMalformed d + i := by
  cases d <;> cases e <;> simp [cntMalformed] at hne ⊢ <;> omega

/-- A display and its counters are as they were. -/
structure SparedIn (s : State) (d : Side) (t : State) : Prop where
  disp     : t.disp.get d = s.disp.get d
  counters : ∀ j, j < 5 → t.counter (cntMalformed d + j) = s.counter (cntMalformed d + j)

theorem SparedIn.refl (d : Side) (s : State) : SparedIn s d s := ⟨rfl, fun _ _ => rfl⟩

theorem SparedIn.trans (h : SparedIn s d t) (k : SparedIn t d u) : SparedIn s d u :=
  ⟨k.disp.trans h.disp, fun j hj => (k.counters j hj).trans (h.counters j hj)⟩

theorem ActsOn.spares (h : ActsOn d s t) {e : Side} (hne : e ≠ d) : SparedIn s e t :=
  ⟨h.other e hne, fun _ hj => h.counters _ fun _ hi => cntMalformed_apart hne hi hj⟩

theorem ActsOn.counters_outside (h : ActsOn d s t) {j : Nat} (hj : j < 4 ∨ 13 < j) : t.counter j = s.counter j :=
  h.counters j fun i hi => by cases d <;> simp only [cntMalformed] <;> omega

/-- What display A's part and display B's part after it leave as it was. -/
theorem ActsOn.both_frame (ha : ActsOn .a s t) (hb : ActsOn .b t u) :
    u = { s with disp := u.disp, notices := u.notices, tables := { s.tables with stats := u.tables.stats } } := by
  have hu := hb.frame
  rw [ha.frame] at hu
  exact hu

theorem State.countsIn_congr {s s' t t' : State} {d : Side}
    (ht : ∀ j, j < 5 → t.counter (cntMalformed d + j) = t'.counter (cntMalformed d + j))
    (hs : ∀ j, j < 5 → s.counter (cntMalformed d + j) = s'.counter (cntMalformed d + j)) (k : Option Nat) :
    t.countsIn s d k ↔ t'.countsIn s' d k :=
  forall₂_congr fun j hj => by rw [ht j hj, hs j hj]

theorem SparedIn.countsIn (h : SparedIn s d t) : t.countsIn s d none :=
  fun j hj => by simpa using h.counters j hj

theorem State.bump_countsIn (hwf : s.tables.stats.wf = true) (i : Nat) :
    (s.bump (cntMalformed d + i) 1).countsIn s d (some i) := by
  intro j _
  by_cases hij : i = j
  · subst hij
    rw [if_pos rfl, State.bump_counter_same hwf]
  · rw [if_neg (by simpa using hij), State.bump_counter_other _ _ (by omega)]

end Sides

/-! One line copy (R46, Table 3-1) -/

theorem any_isLine (store : List Slot) (tag : Tag) (line : Nat) :
    (store.any fun y => y.isLine tag line) = true ↔ ∃ y ∈ store, y.tag = tag ∧ y.line = line := by
  simp [Slot.isLine]

/-- What becomes of a line offered to a display, by Table 3-1: its display after it is `y`, and `counts` says which of its
counters rises. -/
def CopyOutcome (x : Display) (f : Format) (p : Prog) (tag : Tag) (line : Nat) (pixels : List Rgb) (y : Display)
    (counts : Option Nat → Prop) : Prop :=
  if ¬ (x.reader.route = some p ∧ (x.reader.picture = .playing ∨ x.reader.picture = .stalled)) then y = x ∧ counts none
  else if f.height ≤ line ∨ f.width < pixels.length then y = x ∧ counts (some 0)
  else if tag = x.reader.openTag ∧ (x.reader.phase = .after ∨ x.reader.phase = .inside ∧ line < x.reader.nextLine) then
    y = x ∧ counts (some 1)
  else if ∃ z ∈ x.store, z.tag = tag ∧ z.line = line then
    y = { x with store := x.store.map fun z => if z.tag = tag ∧ z.line = line then { z with pixels := pixels } else z } ∧
      counts none
  else if 16 ≤ x.store.length then y = x ∧ counts (some 2)
  else y = { x with store := x.store ++ [⟨tag, line, pixels, false⟩] } ∧ counts none

theorem CopyOutcome.congr {x y : Display} {f : Format} {p : Prog} {tag : Tag} {line : Nat} {pixels : List Rgb}
    {counts counts' : Option Nat → Prop} (h : CopyOutcome x f p tag line pixels y counts)
    (hcounts : ∀ k, counts k ↔ counts' k) : CopyOutcome x f p tag line pixels y counts' := by
  obtain rfl : counts = counts' := funext fun k => propext (hcounts k)
  exact h

section LineCopy

variable {s : State} (d : Side) (p : Prog) (tag : Tag) (line : Nat) (pixels : List Rgb)

theorem State.storeLine_actsOn : ActsOn d s (s.storeLine d p tag line pixels) := by
  simp only [State.storeLine]
  split
  · exact s.bump_actsOn d (i := 0) (by decide) 1
  · exact s.bump_actsOn d (i := 1) (by decide) 1
  · exact s.bump_actsOn d (i := 2) (by decide) 1
  · exact s.setDisp_actsOn d _
  · exact s.setDisp_actsOn d _

theorem State.fanLine_actsOn : ActsOn d s (s.fanLine d p tag line pixels) := by
  unfold State.fanLine
  split
  · exact State.storeLine_actsOn d p tag line pixels
  · exact .refl d s

theorem State.fanLine_notices : (s.fanLine d p tag line pixels).notices = s.notices := by
  unfold State.fanLine State.storeLine
  split
  · simp only
    split <;> rfl
  · rfl

theorem State.shows_iff (hm : s.media = true) : s.shows d p = true ↔ (s.disp.get d).reader.route = some p := by
  simp [State.shows, hm]

theorem State.fanLine_outcome (hm : s.media = true) (hwf : s.tables.stats.wf = true) :
    CopyOutcome (s.disp.get d) (s.formats.get p) p tag line pixels ((s.fanLine d p tag line pixels).disp.get d)
      ((s.fanLine d p tag line pixels).countsIn s d) := by
  have hoffered : (s.shows d p && (s.disp.get d).reader.receives) = true ↔ (s.disp.get d).reader.route = some p ∧
      ((s.disp.get d).reader.picture = .playing ∨ (s.disp.get d).reader.picture = .stalled) := by
    rw [Bool.and_eq_true, State.shows_iff d p hm, Reader.receives, decide_eq_true_eq]
  have same : ∀ x, (s.setDisp d x).countsIn s d none := fun x j _ => rfl
  unfold CopyOutcome State.fanLine
  split
  next hnot =>
    rw [if_neg (mt hoffered.mp hnot)]
    exact ⟨rfl, (SparedIn.refl d s).countsIn⟩
  next hshown =>
  rw [if_pos (hoffered.mpr (not_not.mp hshown))]
  split
  next hbad =>
    have harrival : (s.disp.get d).arrival (s.formats.get p) tag line pixels.length = .malformed := if_pos hbad
    simp only [State.storeLine, harrival]
    exact ⟨rfl, State.bump_countsIn hwf 0⟩
  next hgood =>
  split
  next hlate =>
    have harrival : (s.disp.get d).arrival (s.formats.get p) tag line pixels.length = .late := by
      rw [Display.arrival, if_neg hgood, if_pos hlate]
    simp only [State.storeLine, harrival]
    exact ⟨rfl, State.bump_countsIn hwf 1⟩
  next hearly =>
  split
  next hheld =>
    have harrival : (s.disp.get d).arrival (s.formats.get p) tag line pixels.length = .replaced := by
      rw [Display.arrival, if_neg hgood, if_neg hearly, if_pos ((any_isLine _ _ _).mpr hheld)]
    simp only [State.storeLine, harrival]
    refine ⟨?_, same _⟩
    simp [Slot.replaced, Slot.isLine]
  next hnew =>
  split
  next hfull =>
    have harrival : (s.disp.get d).arrival (s.formats.get p) tag line pixels.length = .overflow := by
      rw [Display.arrival, if_neg hgood, if_neg hearly, if_neg (mt (any_isLine _ _ _).mp hnew)]
      exact if_pos hfull
    simp only [State.storeLine, harrival]
    exact ⟨rfl, State.bump_countsIn hwf 2⟩
  next hroom =>
    have harrival : (s.disp.get d).arrival (s.formats.get p) tag line pixels.length = .appended := by
      rw [Display.arrival, if_neg hgood, if_neg hearly, if_neg (mt (any_isLine _ _ _).mp hnew)]
      exact if_neg hroom
    simp only [State.storeLine, harrival]
    exact ⟨Pair.get_set_same _ _ _, same _⟩

end LineCopy

theorem State.receive_pictureLine {s : State} (hm : s.media = true) {w0 w1 w2 : Word} {payload : List Word}
    (hk : kindField w0 = 1) (hcount : countField w1 = payload.length) (hlegal : downstreamLegal 1 payload.length) :
    s.receive (parcelWords w0 w1 w2 payload) =
      s.linkAlive.pictureLine (progField w0) (tagField w0) (lineField w2) (unpackPixels payload) := by
  have hvalid := classify_valid (w0 := w0) (w1 := w1) (w2 := w2) (k := .pictureLine) (by rw [hk]; rfl) hcount
    (hk.symm ▸ hlegal)
  have hm' : s.linkAlive.media = true := by rw [State.media, State.linkAlive_unit]; exact hm
  rw [State.receive_valid hvalid, State.dispatch]
  exact if_pos hm'

/-- Settles O7: display A's copy and then display B's, each judged against its own store. -/
theorem pictureLineFansOut : Obligations.PictureLineFansOut := by
  intro s w0 w1 w2 payload hs hmedia hwf hk hcount hlegal
  have hm : s.media = true := decide_eq_true hmedia
  have hm' : s.linkAlive.media = true := by rw [State.media, State.linkAlive_unit]; exact hm
  have hwf' : s.linkAlive.tables.stats.wf = true := by rw [State.linkAlive_tables]; exact hwf
  have hcounter : ∀ j, s.linkAlive.counter j = s.counter j := fun j => by rw [State.counter, State.linkAlive_tables]; rfl
  let afterA := s.linkAlive.fanLine .a (progField w0) (tagField w0) (lineField w2) (unpackPixels payload)
  let t := afterA.fanLine .b (progField w0) (tagField w0) (lineField w2) (unpackPixels payload)
  have ha : ActsOn .a s.linkAlive afterA := State.fanLine_actsOn ..
  have hb : ActsOn .b afterA t := State.fanLine_actsOn ..
  have hnotices : t.notices = s.linkAlive.notices := (State.fanLine_notices ..).trans (State.fanLine_notices ..)
  have outA : CopyOutcome (s.disp.get .a) (s.formats.get (progField w0)) (progField w0) (tagField w0) (lineField w2)
      (unpackPixels payload) (t.disp.get .a) (t.countsIn s .a) := by
    have hout := State.fanLine_outcome .a (progField w0) (tagField w0) (lineField w2) (unpackPixels payload) hm' hwf'
    rw [State.linkAlive_disp, State.linkAlive_formats] at hout
    rw [hb.other .a (by decide)]
    exact hout.congr (State.countsIn_congr (fun j hj => ((hb.spares (by decide)).counters j hj).symm) fun j _ => hcounter _)
  have outB : CopyOutcome (s.disp.get .b) (s.formats.get (progField w0)) (progField w0) (tagField w0) (lineField w2)
      (unpackPixels payload) (t.disp.get .b) (t.countsIn s .b) := by
    have hmA : afterA.media = true := by rw [ha.frame]; exact hm'
    have hformats : afterA.formats = s.formats := by rw [ha.frame]; exact s.linkAlive_formats
    have hout := State.fanLine_outcome .b (progField w0) (tagField w0) (lineField w2) (unpackPixels payload) hmA (ha.wf hwf')
    rw [ha.other .b (by decide), State.linkAlive_disp, hformats] at hout
    exact hout.congr (State.countsIn_congr (fun _ _ => rfl) fun j hj =>
      ((ha.spares (by decide)).counters j hj).trans (hcounter _))
  refine ⟨t, by rw [exec_pictureLine hs, State.receive_pictureLine hm hk hcount hlegal]; rfl, ?_, fun j hj => ?_, fun d => ?_⟩
  · have hframe := ha.both_frame hb
    rw [hnotices, State.linkAlive_tables] at hframe
    exact hframe
  · exact ((hb.counters_outside hj).trans (ha.counters_outside hj)).trans (hcounter j)
  · cases d with
    | a => exact outA
    | b => exact outB

end Sys2Proof.Machine
end

section
/-! A picture mark: the format and the displays it halts, then the tag and the stores it purges (O8). -/

namespace Sys2Proof.Machine

open Sys2Proof

theorem State.counter_le (s : State) (j : Nat) : s.counter j ≤ 65535 :=
  Nat.le_of_lt_succ (s.tables.stats.read j).isLt

section Mark

variable {s : State} {d : Side} {p : Prog}

/-! A mark out of range (R44 step 1) -/

theorem State.countMalformed_actsOn (s : State) (d : Side) (p : Prog) : ActsOn d s (s.countMalformed d p) := by
  unfold State.countMalformed
  split
  · exact s.bump_actsOn d (i := 0) (by decide) 1
  · exact .refl d s

theorem State.countMalformed_frame (s : State) (d : Side) (p : Prog) :
    (s.countMalformed d p).disp = s.disp ∧ (s.countMalformed d p).notices = s.notices := by
  unfold State.countMalformed
  split <;> exact ⟨rfl, rfl⟩

theorem State.countMalformed_countsIn (hm : s.media = true) (hwf : s.tables.stats.wf = true) :
    (s.countMalformed d p).countsIn s d (if (s.disp.get d).reader.route = some p then some 0 else none) := by
  unfold State.countMalformed
  by_cases hroute : (s.disp.get d).reader.route = some p
  · rw [if_pos hroute, if_pos ((State.shows_iff d p hm).mpr hroute)]
    exact State.bump_countsIn hwf 0
  · rw [if_neg hroute, if_neg (mt (State.shows_iff d p hm).mp hroute)]
    exact (SparedIn.refl d s).countsIn

/-! The displays a changed format halts (R44, R57) -/

def Display.halted (x : Display) : Display := { x with store := [], reader := { x.reader with picture := .halted } }

/-- The display shows the programme and takes its lines. -/
def State.hears (s : State) (p : Prog) (d : Side) : Prop :=
  (s.disp.get d).reader.route = some p ∧
    ((s.disp.get d).reader.picture = .playing ∨ (s.disp.get d).reader.picture = .stalled)

theorem State.hears_iff (hm : s.media = true) :
    (s.shows d p && (s.disp.get d).reader.receives) = true ↔ s.hears p d := by
  rw [Bool.and_eq_true, State.shows_iff d p hm, Reader.receives, decide_eq_true_eq, State.hears]

theorem State.haltDisplay_hears (hm : s.media = true) (h : s.hears p d) :
    s.haltDisplay d p = (s.setDisp d (s.disp.get d).halted).offerNotice .picture (sideCode d) 3 :=
  if_pos ((State.hears_iff hm).mpr h)

theorem State.haltDisplay_deaf (hm : s.media = true) (h : ¬ s.hears p d) : s.haltDisplay d p = s :=
  if_neg (mt (State.hears_iff hm).mp h)

theorem State.haltDisplay_actsOn (s : State) (d : Side) (p : Prog) : ActsOn d s (s.haltDisplay d p) := by
  simp only [State.haltDisplay]
  split
  · exact (s.setDisp_actsOn d _).trans {}
  · exact .refl d s

theorem State.haltDisplay_tables (s : State) (d : Side) (p : Prog) : (s.haltDisplay d p).tables = s.tables := by
  simp only [State.haltDisplay]
  split <;> rfl

/-- The mark changes a format that is not clear. -/
def Format.changes (f : Format) (w h : Nat) : Prop := ¬ (f.width = 0 ∧ f.height = 0) ∧ ¬ (f.width = w ∧ f.height = h)

/-- The state with the size a mark gives its programme. -/
def State.sized (s : State) (p : Prog) (w h : Nat) : State :=
  { s with formats := s.formats.set p { s.formats.get p with width := w, height := h } }

theorem State.takeFormat_changed {w h : Nat} (hc : (s.formats.get p).changes w h) :
    s.takeFormat p w h = ((s.sized p w h).haltDisplay .a p).haltDisplay .b p :=
  if_neg (not_or.mpr hc)

theorem State.takeFormat_unchanged {w h : Nat} (hc : ¬ (s.formats.get p).changes w h) :
    s.takeFormat p w h = s.sized p w h :=
  if_pos (by unfold Format.changes at hc; tauto)

/-- The display is halted by the mark. -/
def State.halts (s : State) (p : Prog) (w h : Nat) (d : Side) : Prop := s.hears p d ∧ (s.formats.get p).changes w h

variable {w h : Nat}

theorem State.takeFormat_frame (s : State) (p : Prog) (w h : Nat) : s.takeFormat p w h = { s.sized p w h with
    disp := (s.takeFormat p w h).disp, notices := (s.takeFormat p w h).notices } := by
  by_cases hc : (s.formats.get p).changes w h
  · rw [State.takeFormat_changed hc]
    have hframe := ((s.sized p w h).haltDisplay_actsOn .a p).both_frame (State.haltDisplay_actsOn _ .b p)
    rw [State.haltDisplay_tables, State.haltDisplay_tables] at hframe
    exact hframe
  · rw [State.takeFormat_unchanged hc]

theorem State.takeFormat_formats (s : State) (p : Prog) (w h : Nat) : (s.takeFormat p w h).formats =
    s.formats.set p { s.formats.get p with width := w, height := h } := by
  rw [State.takeFormat_frame]; rfl

theorem State.takeFormat_disp (hm : s.media = true) (d : Side) :
    (s.halts p w h d → (s.takeFormat p w h).disp.get d = (s.disp.get d).halted) ∧
    (¬ s.halts p w h d → (s.takeFormat p w h).disp.get d = s.disp.get d) := by
  by_cases hc : (s.formats.get p).changes w h
  · rw [State.takeFormat_changed hc]
    have own : ∀ u : State, u.media = true → (u.hears p d → (u.haltDisplay d p).disp.get d = (u.disp.get d).halted) ∧
        (¬ u.hears p d → (u.haltDisplay d p).disp.get d = u.disp.get d) := by
      intro u hu
      exact ⟨fun hh => by rw [State.haltDisplay_hears hu hh]; exact Pair.get_set_same _ _ _,
        fun hd => by rw [State.haltDisplay_deaf hu hd]⟩
    have hhalts : s.halts p w h d ↔ s.hears p d := and_iff_left hc
    rw [hhalts]
    cases d with
    | a =>
      rw [(State.haltDisplay_actsOn _ .b p).other .a (by decide)]
      exact own (s.sized p w h) hm
    | b =>
      have hact := (s.sized p w h).haltDisplay_actsOn .a p
      have hdisp : ((s.sized p w h).haltDisplay .a p).disp.get .b = s.disp.get .b := hact.other .b (by decide)
      have hb := own ((s.sized p w h).haltDisplay .a p) (by rw [hact.frame]; exact hm)
      rwa [State.hears, hdisp] at hb
  · rw [State.takeFormat_unchanged hc]
    exact ⟨fun hh => absurd hh.2 hc, fun _ => rfl⟩

/-- Display A's HALTED notice comes first (log 12). -/
theorem State.takeFormat_notices (hm : s.media = true) :
    (¬ s.halts p w h .a → ¬ s.halts p w h .b → (s.takeFormat p w h).notices = s.notices) ∧
    (s.halts p w h .a → ¬ s.halts p w h .b → (s.takeFormat p w h).notices = (s.offerNotice .picture 0 3).notices) ∧
    (¬ s.halts p w h .a → s.halts p w h .b → (s.takeFormat p w h).notices = (s.offerNotice .picture 1 3).notices) ∧
    (s.halts p w h .a → s.halts p w h .b →
      (s.takeFormat p w h).notices = ((s.offerNotice .picture 0 3).offerNotice .picture 1 3).notices) := by
  by_cases hc : (s.formats.get p).changes w h
  · have hact := (s.sized p w h).haltDisplay_actsOn .a p
    have hmA : ((s.sized p w h).haltDisplay .a p).media = true := by rw [hact.frame]; exact hm
    have hearsB : ((s.sized p w h).haltDisplay .a p).hears p .b ↔ s.hears p .b := by
      rw [State.hears, hact.other .b (by decide)]; rfl
    have hhalts : ∀ d, s.halts p w h d ↔ s.hears p d := fun d => and_iff_left hc
    rw [State.takeFormat_changed hc, hhalts .a, hhalts .b, ← hearsB]
    refine ⟨fun ha hb => ?_, fun ha hb => ?_, fun ha hb => ?_, fun ha hb => ?_⟩
    · rw [State.haltDisplay_deaf hmA hb, State.haltDisplay_deaf (s := s.sized p w h) hm ha]; rfl
    · rw [State.haltDisplay_deaf hmA hb, State.haltDisplay_hears (s := s.sized p w h) hm ha]; rfl
    · rw [State.haltDisplay_hears hmA hb, State.haltDisplay_deaf (s := s.sized p w h) hm ha]; rfl
    · rw [State.haltDisplay_hears hmA hb, State.haltDisplay_hears (s := s.sized p w h) hm ha]; rfl
  · have spared : ∀ d, ¬ s.halts p w h d := fun d hh => hc hh.2
    rw [State.takeFormat_unchanged hc]
    exact ⟨fun _ _ => rfl, fun ha => absurd ha (spared .a), fun _ hb => absurd hb (spared .b),
      fun ha => absurd ha (spared .a)⟩

/-! The stores a newly opened tag is purged from (R45) -/

/-- The display shows the programme with another tag open. -/
def State.purges (s : State) (p : Prog) (tag : Tag) (d : Side) : Prop :=
  (s.disp.get d).reader.route = some p ∧ (s.disp.get d).reader.openTag ≠ tag

def Display.purged (x : Display) (tag : Tag) : Display := { x with store := x.store.filter fun y => decide (y.tag ≠ tag) }

variable {tag : Tag}

theorem State.purges_iff (hm : s.media = true) :
    (s.shows d p && decide ((s.disp.get d).reader.openTag ≠ tag)) = true ↔ s.purges p tag d := by
  rw [Bool.and_eq_true, State.shows_iff d p hm, decide_eq_true_eq, State.purges]

theorem State.purgeTag_purges (hm : s.media = true) (hp : s.purges p tag d) : s.purgeTag d p tag =
    (s.setDisp d ((s.disp.get d).purged tag)).bump (cntMalformed d + 4)
      ((s.disp.get d).store.countP fun y => decide (y.tag = tag)) :=
  if_pos ((State.purges_iff hm).mpr hp)

theorem State.purgeTag_spares (hm : s.media = true) (hp : ¬ s.purges p tag d) : s.purgeTag d p tag = s :=
  if_neg (mt (State.purges_iff hm).mp hp)

theorem State.purgeTag_actsOn (s : State) (d : Side) (p : Prog) (tag : Tag) : ActsOn d s (s.purgeTag d p tag) := by
  simp only [State.purgeTag]
  split
  · exact (s.setDisp_actsOn d _).trans (State.bump_actsOn _ d (i := 4) (by decide) _)
  · exact .refl d s

theorem State.purgeTag_notices (s : State) (d : Side) (p : Prog) (tag : Tag) :
    (s.purgeTag d p tag).notices = s.notices := by
  simp only [State.purgeTag]
  split <;> rfl

/-- What a purge makes of a display and its counters: the tag's slots leave the store and are counted in UNUSED. -/
structure PurgedTo (s : State) (d : Side) (tag : Tag) (t : State) : Prop where
  disp   : t.disp.get d = (s.disp.get d).purged tag
  kept   : ∀ j, j < 4 → t.counter (cntMalformed d + j) = s.counter (cntMalformed d + j)
  unused : t.counter (cntUnused d) =
    min (s.counter (cntUnused d) + (s.disp.get d).store.countP fun y => decide (y.tag = tag)) 65535

theorem State.purgeTag_purgedTo (hm : s.media = true) (hwf : s.tables.stats.wf = true) (hp : s.purges p tag d) :
    PurgedTo s d tag (s.purgeTag d p tag) := by
  rw [State.purgeTag_purges hm hp]
  exact ⟨Pair.get_set_same _ _ _, fun j hj => State.bump_counter_other _ _ (by omega),
    State.bump_counter_same (s := s.setDisp d _) hwf _ _⟩

theorem PurgedTo.before {t u : State} (h : PurgedTo s d tag t) (k : SparedIn t d u) : PurgedTo s d tag u :=
  ⟨k.disp.trans h.disp, fun j hj => (k.counters j (by omega)).trans (h.kept j hj),
    (k.counters 4 (by decide)).trans h.unused⟩

theorem SparedIn.purged {t u : State} (h : SparedIn s d t) (k : PurgedTo t d tag u) : PurgedTo s d tag u where
  disp := by rw [k.disp, h.disp]
  kept j hj := (k.kept j hj).trans (h.counters j (by omega))
  unused := by
    have hunused : t.counter (cntUnused d) = s.counter (cntUnused d) := h.counters 4 (by decide)
    rw [k.unused, h.disp, hunused]

/-- A display whose store the mark purges. -/
def State.opens (s : State) (p : Prog) (tag : Tag) (d : Side) : Prop :=
  (s.formats.get p).lastTag ≠ some tag ∧ s.purges p tag d

/-- The tag part of a mark reaches each display as its own purge, whatever the other's did. -/
theorem State.takeTag_sides (hm : s.media = true) (hwf : s.tables.stats.wf = true) (d : Side) :
    (s.opens p tag d → PurgedTo s d tag (s.takeTag p tag)) ∧ (¬ s.opens p tag d → SparedIn s d (s.takeTag p tag)) := by
  by_cases hlast : (s.formats.get p).lastTag = some tag
  · refine ⟨fun hp => absurd hlast hp.1, fun _ => ?_⟩
    simp only [State.takeTag, if_pos hlast]
    exact ⟨rfl, fun _ _ => rfl⟩
  · have own : ∀ u : State, u.media = true → u.tables.stats.wf = true →
        (u.purges p tag d → PurgedTo u d tag (u.purgeTag d p tag)) ∧
        (¬ u.purges p tag d → SparedIn u d (u.purgeTag d p tag)) := fun u hu huwf =>
      ⟨State.purgeTag_purgedTo hu huwf, fun hp => by rw [State.purgeTag_spares hu hp]; exact .refl d u⟩
    have hpurges : s.opens p tag d ↔ s.purges p tag d := and_iff_right hlast
    rw [hpurges]
    simp only [State.takeTag, if_neg hlast]
    have hact := s.purgeTag_actsOn .a p tag
    cases d with
    | a =>
      have spared : SparedIn (s.purgeTag .a p tag) .a ((s.purgeTag .a p tag).purgeTag .b p tag) :=
        (State.purgeTag_actsOn _ .b p tag).spares (by decide)
      obtain ⟨hpurged, hspared⟩ := own s hm hwf
      exact ⟨fun hp => (hpurged hp).before ⟨spared.disp, spared.counters⟩,
        fun hp => (hspared hp).trans ⟨spared.disp, spared.counters⟩⟩
    | b =>
      have spared : SparedIn s .b (s.purgeTag .a p tag) := hact.spares (by decide)
      have hsame : (s.purgeTag .a p tag).purges p tag .b ↔ s.purges p tag .b := by
        rw [State.purges, spared.disp]; rfl
      obtain ⟨hpurged, hspared⟩ := own (s.purgeTag .a p tag) (by rw [hact.frame]; exact hm) (hact.wf hwf)
      rw [hsame] at hpurged hspared
      exact ⟨fun hp => spared.purged ⟨(hpurged hp).disp, (hpurged hp).kept, (hpurged hp).unused⟩,
        fun hp => spared.trans ⟨(hspared hp).disp, (hspared hp).counters⟩⟩

theorem State.takeTag_frame (s : State) (p : Prog) (tag : Tag) : s.takeTag p tag = { s with
    formats := s.formats.set p { s.formats.get p with lastTag := some tag },
    disp := (s.takeTag p tag).disp, tables := { s.tables with stats := (s.takeTag p tag).tables.stats } } := by
  simp only [State.takeTag]
  split
  · rfl
  · have hframe := (s.purgeTag_actsOn .a p tag).both_frame (State.purgeTag_actsOn _ .b p tag)
    rw [State.purgeTag_notices, State.purgeTag_notices] at hframe
    rw [hframe]

theorem State.takeTag_formats (s : State) (p : Prog) (tag : Tag) :
    (s.takeTag p tag).formats = s.formats.set p { s.formats.get p with lastTag := some tag } := by
  rw [State.takeTag_frame]

theorem State.takeTag_notices (s : State) (p : Prog) (tag : Tag) : (s.takeTag p tag).notices = s.notices := by
  rw [State.takeTag_frame]

theorem State.takeTag_counters (s : State) (p : Prog) (tag : Tag) {j : Nat} (hj : j < 4 ∨ 13 < j) :
    (s.takeTag p tag).counter j = s.counter j := by
  simp only [State.takeTag]
  split
  · rfl
  · exact ((State.purgeTag_actsOn _ .b p tag).counters_outside hj).trans
      ((s.purgeTag_actsOn .a p tag).counters_outside hj)

/-- A purge of an empty store leaves the display and its counters. -/
theorem PurgedTo.spared {t : State} (hp : PurgedTo s d tag t) (hempty : (s.disp.get d).store = []) : SparedIn s d t where
  disp := by
    rw [hp.disp, Display.purged, hempty, List.filter_nil, ← hempty]
  counters j hj := by
    by_cases h4 : j = 4
    · subst h4
      have hunused := hp.unused
      rw [hempty, List.countP_nil, Nat.add_zero, Nat.min_eq_left (s.counter_le _)] at hunused
      exact hunused
    · exact hp.kept j (by omega)

end Mark

theorem State.receive_pictureMark {s : State} (hm : s.media = true) {w0 w1 w2 : Word} (w h : Word)
    (hk : kindField w0 = 2) (hcount : countField w1 = 2) :
    s.receive (parcelWords w0 w1 w2 [w, h]) =
      s.linkAlive.pictureMark (progField w0) (tagField w0) w.toNat h.toNat := by
  have hvalid := classify_valid (w0 := w0) (w1 := w1) (w2 := w2) (payload := [w, h]) (k := .pictureMark)
    (by rw [hk]; rfl) hcount (by rw [hk]; exact .inr (.inr (.inl ⟨rfl, rfl⟩)))
  have hm' : s.linkAlive.media = true := by rw [State.media, State.linkAlive_unit]; exact hm
  rw [State.receive_valid hvalid, State.dispatch]
  exact if_pos hm'

/-- The clauses of a mark in range on each display: halted, purged, or as it was (R44, R45, R57). -/
theorem State.markTaken_sides {s : State} (hm : s.media = true) (hwf : s.tables.stats.wf = true) (p : Prog) (tag : Tag)
    (w h : Nat) (d : Side) :
    let t := (s.takeFormat p w h).takeTag p tag
    (s.halts p w h d → t.disp.get d = (s.disp.get d).halted ∧ t.countsIn s d none) ∧
    (¬ s.halts p w h d → s.opens p tag d → PurgedTo s d tag t) ∧
    (¬ s.halts p w h d → ¬ s.opens p tag d → SparedIn s d t) := by
  intro t
  have hframe := s.takeFormat_frame p w h
  obtain ⟨hhalted, hspared⟩ := State.takeFormat_disp (p := p) (w := w) (h := h) hm d
  have hmU : (s.takeFormat p w h).media = true := by rw [hframe]; exact hm
  have hwfU : (s.takeFormat p w h).tables.stats.wf = true := by rw [hframe]; exact hwf
  have hcounter : ∀ j, (s.takeFormat p w h).counter j = s.counter j := fun j => by rw [hframe]; rfl
  have hlast : ((s.takeFormat p w h).formats.get p).lastTag = (s.formats.get p).lastTag := by
    rw [State.takeFormat_formats, Quad.get_set_same]
  obtain ⟨hpurged, hkept⟩ := State.takeTag_sides (p := p) (tag := tag) hmU hwfU d
  refine ⟨fun hh => ?_, fun hh => ?_, fun hh => ?_⟩
  · have hempty : ((s.takeFormat p w h).disp.get d).store = [] := by rw [hhalted hh]; rfl
    have hsame : SparedIn (s.takeFormat p w h) d t := by
      by_cases hopen : (s.takeFormat p w h).opens p tag d
      · exact (hpurged hopen).spared hempty
      · exact hkept hopen
    refine ⟨hsame.disp.trans (hhalted hh), fun j hj => ?_⟩
    simpa using (hsame.counters j hj).trans (hcounter _)
  · have hbefore : SparedIn s d (s.takeFormat p w h) := ⟨hspared hh, fun j _ => hcounter _⟩
    have hopens : (s.takeFormat p w h).opens p tag d ↔ s.opens p tag d := by
      rw [State.opens, State.purges, hbefore.disp, hlast]; rfl
    exact fun hp => hbefore.purged (hpurged (hopens.mpr hp))
  · have hbefore : SparedIn s d (s.takeFormat p w h) := ⟨hspared hh, fun j _ => hcounter _⟩
    have hopens : (s.takeFormat p w h).opens p tag d ↔ s.opens p tag d := by
      rw [State.opens, State.purges, hbefore.disp, hlast]; rfl
    exact fun hp => hbefore.trans (hkept (mt hopens.mp hp))

/-- The records and the notices after a mark in range. -/
theorem State.markTaken_formats (s : State) (p : Prog) (tag : Tag) (w h : Nat) :
    let t := (s.takeFormat p w h).takeTag p tag
    t.formats.get p = ⟨w, h, some tag⟩ ∧ (∀ q, q ≠ p → t.formats.get q = s.formats.get q) ∧
      t.notices = (s.takeFormat p w h).notices := by
  intro t
  have hformats : t.formats = (s.takeFormat p w h).formats.set p
      { (s.takeFormat p w h).formats.get p with lastTag := some tag } := State.takeTag_formats _ p tag
  rw [hformats, State.takeFormat_formats, Quad.get_set_same, Quad.get_set_same]
  exact ⟨rfl, fun q hq => (Quad.get_set_other _ _ hq).trans (Quad.get_set_other _ _ hq), State.takeTag_notices _ p tag⟩

/-- Only the format records, the displays, the notices and the counters differ. -/
def OnlyMarked (s t : State) : Prop := t = { s with
  formats := t.formats, disp := t.disp, notices := t.notices, tables := { s.tables with stats := t.tables.stats } }

theorem OnlyMarked.trans {s t u : State} (h : OnlyMarked s t) (k : OnlyMarked t u) : OnlyMarked s u := by
  have hu : u = _ := k
  rw [show t = _ from h] at hu
  exact hu

theorem State.markTaken_frame (s : State) (p : Prog) (tag : Tag) (w h : Nat) :
    OnlyMarked s ((s.takeFormat p w h).takeTag p tag) := by
  have hformat : OnlyMarked s (s.takeFormat p w h) := by
    rw [OnlyMarked, State.takeFormat_frame]; rfl
  have htag : ∀ u : State, OnlyMarked u (u.takeTag p tag) := by
    intro u
    rw [OnlyMarked, State.takeTag_frame]
  exact hformat.trans (htag _)

theorem State.markTaken_counters (s : State) (p : Prog) (tag : Tag) (w h : Nat) {j : Nat} (hj : j < 4 ∨ 13 < j) :
    ((s.takeFormat p w h).takeTag p tag).counter j = s.counter j := by
  rw [State.takeTag_counters _ p tag hj, State.takeFormat_frame]
  rfl

/-- A mark out of range only counts MALFORMED, at each display of its programme (R44). -/
theorem State.markRefused {s : State} (hm : s.media = true) (hwf : s.tables.stats.wf = true) (p : Prog) :
    let t := (s.countMalformed .a p).countMalformed .b p
    t = { s with tables := { s.tables with stats := t.tables.stats } } ∧
      (∀ j, j < 4 ∨ 13 < j → t.counter j = s.counter j) ∧
      ∀ d, t.countsIn s d (if (s.disp.get d).reader.route = some p then some 0 else none) := by
  intro t
  have ha := s.countMalformed_actsOn .a p
  have hb := (s.countMalformed .a p).countMalformed_actsOn .b p
  obtain ⟨hdispA, hnoticesA⟩ := s.countMalformed_frame .a p
  obtain ⟨hdispB, hnoticesB⟩ := (s.countMalformed .a p).countMalformed_frame .b p
  have hmA : (s.countMalformed .a p).media = true := by rw [ha.frame]; exact hm
  refine ⟨?_, fun j hj => (hb.counters_outside hj).trans (ha.counters_outside hj), fun d => ?_⟩
  · have hframe := ha.both_frame hb
    rw [hdispB.trans hdispA, hnoticesB.trans hnoticesA] at hframe
    exact hframe
  · cases d with
    | a =>
      exact (State.countsIn_congr (fun j hj => (hb.spares (e := .a) (by decide)).counters j hj) (fun _ _ => rfl) _).mpr
        (State.countMalformed_countsIn hm hwf)
    | b =>
      have hcount := State.countMalformed_countsIn (d := .b) (p := p) hmA (ha.wf hwf)
      rw [hdispA] at hcount
      exact (State.countsIn_congr (fun _ _ => rfl) (fun j hj => (ha.spares (e := .b) (by decide)).counters j hj) _).mp hcount

/-- Settles O8: the out-of-range mark is only counted; in range the format halts first, and the purge of a display that
was halted finds its store empty. -/
theorem pictureMarkSetsFormat : Obligations.PictureMarkSetsFormat := by
  intro s w0 w1 w2 w h hs hmedia hwf hk hcount p tag f inRange halts k
  have hm : k.media = true := by rw [State.media, State.linkAlive_unit]; exact decide_eq_true hmedia
  have hwf' : k.tables.stats.wf = true := by rw [State.linkAlive_tables]; exact hwf
  have hdisp : k.disp = s.disp := s.linkAlive_disp
  have hformats : k.formats = s.formats := s.linkAlive_formats
  have htables : k.tables = s.tables := s.linkAlive_tables
  have hcounter : ∀ j, k.counter j = s.counter j := fun j => by rw [State.counter, htables]; rfl
  have fromLink : ∀ (t : State) (d : Side) (c : Option Nat), t.countsIn k d c → t.countsIn s d c :=
    fun t d c => (State.countsIn_congr (fun _ _ => rfl) (fun j _ => hcounter _) c).mp
  refine ⟨k.pictureMark p tag w.toNat h.toNat, ?_, ?_⟩
  · rw [exec_pictureMark hs, State.receive_pictureMark (decide_eq_true hmedia) w h hk hcount]
  by_cases hin : inRange
  · have hmark : k.pictureMark p tag w.toNat h.toNat = (k.takeFormat p w.toNat h.toNat).takeTag p tag :=
      if_pos (decide_eq_true hin)
    rw [hmark]
    have hframe := k.markTaken_frame p tag w.toNat h.toNat
    obtain ⟨hrecord, hothers, hnotices⟩ := k.markTaken_formats p tag w.toNat h.toNat
    obtain ⟨hneither, honlyA, honlyB, hboth⟩ := State.takeFormat_notices (p := p) (w := w.toNat) (h := h.toNat) hm
    have hhalts : ∀ d, k.halts p w.toNat h.toNat d ↔ halts d := by
      intro d
      rw [State.halts, State.hears, hdisp, hformats, and_assoc]; rfl
    have hopens : ∀ d, k.opens p tag d ↔ (s.disp.get d).reader.route = some p ∧ f.lastTag ≠ some tag ∧
        (s.disp.get d).reader.openTag ≠ tag := by
      intro d
      rw [State.opens, State.purges, hdisp, hformats, and_left_comm]
    simp only [hhalts] at hneither honlyA honlyB hboth
    rw [OnlyMarked, htables] at hframe
    refine ⟨hframe, fun q hq => (hothers q hq).trans (by rw [hformats]),
      fun j hj => (k.markTaken_counters p tag _ _ hj).trans (hcounter j), fun hout => absurd hin hout,
      fun _ => ⟨hrecord, fun ha hb => hnotices.trans (hneither ha hb), fun ha hb => hnotices.trans (honlyA ha hb),
        fun ha hb => hnotices.trans (honlyB ha hb), fun ha hb => hnotices.trans (hboth ha hb), fun d => ?_⟩⟩
    obtain ⟨hhalted, hpurged, hspared⟩ := State.markTaken_sides hm hwf' p tag w.toNat h.toNat d
    rw [hhalts, hdisp] at hhalted
    rw [hhalts, hopens] at hpurged hspared
    refine ⟨fun hh => ?_, fun hh hp => ?_, fun hh hp => ?_⟩
    · exact ⟨(hhalted hh).1, fromLink _ d none (hhalted hh).2⟩
    · obtain ⟨hstore, hkept, hunused⟩ := hpurged hh hp
      rw [hdisp] at hstore hunused
      rw [hcounter] at hunused
      exact ⟨hstore, fun j hj => (hkept j hj).trans (hcounter _), hunused⟩
    · exact ⟨(hspared hh hp).disp.trans (by rw [hdisp]), fromLink _ d none (hspared hh hp).countsIn⟩
  · have hmark : k.pictureMark p tag w.toNat h.toNat = (k.countMalformed .a p).countMalformed .b p :=
      if_neg fun h => hin (of_decide_eq_true h)
    rw [hmark]
    obtain ⟨hframe, hcounters, hsides⟩ := State.markRefused hm hwf' p
    have hformatsT := (congrArg State.formats hframe).trans hformats
    have hdispT := (congrArg State.disp hframe).trans hdisp
    have hnoticesT := congrArg State.notices hframe
    refine ⟨?_, fun q _ => by rw [hformatsT], fun j hj => (hcounters j hj).trans (hcounter j),
      fun _ => ⟨hformatsT, hdispT, hnoticesT, fun d => fromLink _ d _ (hdisp ▸ hsides d)⟩, fun h => absurd h hin⟩
    rw [htables] at hframe
    rw [hframe]

end Sys2Proof.Machine
end

section
/-! Blending and shading of colour channels (O42). -/

namespace Sys2Proof.Machine

open Sys2Proof

/-- The quotient of R71 rounds down, and never passes 0 or the whole difference of the two channels. -/
theorem blendStep_between (d : Int) {p : Nat} (hp : p ≤ 4) : min 0 d ≤ d * p / 4 ∧ d * p / 4 ≤ max 0 d := by
  have hp4 : (p : Int) ≤ 4 := by exact_mod_cast hp
  rcases le_total 0 d with hd | hd
  · have hlow : 0 ≤ d * p := mul_nonneg hd p.cast_nonneg
    have hhigh : d * p ≤ d * 4 := mul_le_mul_of_nonneg_left hp4 hd
    omega
  · have hlow : d * 4 ≤ d * p := mul_le_mul_of_nonpos_left hp4 hd
    have hhigh : d * p ≤ 0 := mul_nonpos_of_nonpos_of_nonneg hd p.cast_nonneg
    omega

section Channels

variable (b k v : Byte)

/-- The blended channel is R71's formula itself: nothing is cut off by its 8 bits. -/
theorem blendChannel_toNat {p : Nat} (hp : p ≤ 4) :
    ((blendChannel b k p).toNat : Int) = b.toNat + ((k.toNat : Int) - b.toNat) * p / 4 := by
  have hstep := blendStep_between ((k.toNat : Int) - b.toNat) hp
  rw [blendChannel, BitVec.toNat_ofInt]
  omega

theorem blendChannel_between {p : Nat} (hp : p ≤ 4) :
    (blendChannel b k p).toNat ≤ max b.toNat k.toNat ∧ min b.toNat k.toNat ≤ (blendChannel b k p).toNat := by
  have hstep := blendStep_between ((k.toNat : Int) - b.toNat) hp
  have hformula := blendChannel_toNat b k hp
  omega

theorem blendChannel_zero : blendChannel b k 0 = b := by
  have hformula := blendChannel_toNat b k (p := 0) (by decide)
  exact BitVec.eq_of_toNat_eq (by omega)

theorem blendChannel_four : blendChannel b k 4 = k := by
  have hformula := blendChannel_toNat b k (p := 4) (by decide)
  exact BitVec.eq_of_toNat_eq (by omega)

theorem shadeChannel_toNat (level : Nat) : (shadeChannel v level).toNat = v.toNat - v.toNat * level / 4 := by
  rw [shadeChannel, BitVec.toNat_ofNat]
  exact Nat.mod_eq_of_lt ((Nat.sub_le ..).trans_lt v.isLt)

theorem shadeChannel_zero : shadeChannel v 0 = v := by
  refine BitVec.eq_of_toNat_eq ?_
  rw [shadeChannel_toNat, Nat.mul_zero, Nat.zero_div, Nat.sub_zero]

end Channels

/-- Settles O42: the formula of R71 holds on the channels as numbers, and the bounds and both ends follow from it. -/
theorem blendStaysBetween : Obligations.BlendStaysBetween := by
  refine ⟨fun b k _ hp => blendChannel_between b k hp, fun b k => ⟨blendChannel_zero b k, blendChannel_four b k⟩,
    fun b k p hp => ?_, fun _ _ => rfl, fun v level _ => ⟨shadeChannel_toNat v level, shadeChannel_zero v⟩⟩
  rw [blendChannel_toNat b k hp, Int.fdiv_eq_ediv_of_nonneg _ (by decide)]

end Sys2Proof.Machine
end

section
/-! Active rows: composing a pixel, the row's own step, and the outputs of a screen (O40). -/

namespace Sys2Proof.Machine

open Sys2Proof

/-! Composing a pixel (R67 to R69) -/

/-- The base colour in the words of R67: film in the window's columns, shaded while the menu is open, else background. -/
theorem basePixel_eq (c palettes : Table) (menu : Option (List MenuRow)) (source : Option RowSource) (i : Nat) :
    let film := filmPixel (source.getD .fill) (refColour palettes (c.nat 6)) (c.nat 5) (i - c.nat 1)
    basePixel c palettes menu.isSome source i =
      if source ≠ none ∧ c.nat 1 ≤ i ∧ i < c.nat 1 + c.nat 3 then
        if menu = none then film else shade film (c.nat 7)
      else refColour palettes (c.nat 0) := by
  cases source with
  | none => rfl
  | some src =>
    simp only [basePixel, windowX, windowWidth, windowScale]
    cases menu <;> simp

/-! The row's step (R67, R75) -/

section Row

variable {s : State} {d : Side} {c : Table} {y : Nat}

/-- A window row leaves the mirror as it was, and of the tables it changes only the counters. -/
theorem State.windowRow_spares (s : State) (d : Side) (scale r : Nat) :
    let t := (s.windowRow d scale r).1
    t.mirror = s.mirror ∧ t.tables = { s.tables with stats := t.tables.stats } := by
  simp only [State.windowRow]
  split
  · exact ⟨rfl, rfl⟩
  · split
    · exact ⟨rfl, rfl⟩
    · split
      · exact ⟨rfl, rfl⟩
      · split <;> exact ⟨rfl, rfl⟩

theorem State.readRow_eq (s : State) (d : Side) (c : Table) (y : Nat) :
    let inWindow := c.nat 2 ≤ y ∧ y < c.nat 2 + c.nat 4
    let read := s.windowRow d (c.nat 5) (y - c.nat 2)
    s.readRow d c y = (if inWindow then read.1 else s, if inWindow then some read.2 else none) := by
  intro inWindow read
  by_cases hin : inWindow
  · have hrow : windowRowOf c y = some (y - c.nat 2) := if_pos hin
    rw [State.readRow, hrow, if_pos hin, if_pos hin]
    rfl
  · have hrow : windowRowOf c y = none := if_neg hin
    rw [State.readRow, hrow, if_neg hin, if_neg hin]

theorem State.readRow_spares (s : State) (d : Side) (c : Table) (y : Nat) :
    let t := (s.readRow d c y).1
    t.mirror = s.mirror ∧ t.tables = { s.tables with stats := t.tables.stats } := by
  unfold State.readRow
  split
  · exact ⟨rfl, rfl⟩
  · exact s.windowRow_spares _ _ _

theorem exec_activeRow_due (hs : s.held = none) (hdue : s.rowDue d = some y) (hc : (s.disp.get d).comp = some c) :
    exec (.activeRow d) s = .next (s.activeRow d c y) := by
  rw [exec, execActiveRow, whenLive_live hs, hdue, hc]

theorem exec_activeRow_notDue (hs : s.held = none) (h : s.rowDue d = none ∨ (s.disp.get d).comp = none) :
    exec (.activeRow d) s = .next s := by
  rw [exec, execActiveRow, whenLive_live hs]
  rcases h with h | h
  · rw [h]
  · rw [h]; cases s.rowDue d <;> rfl

theorem State.mirrorRow_mirrored {tag : Tag} (h : s.mirror.frame = some tag) (y : Nat) :
    s.mirrorRow .a y = s.offerPicture (.line .mirror tag y s.disp.a.rowOut) := by
  simp only [State.mirrorRow, h]

theorem State.mirrorRow_plain (h : d = .b ∨ s.mirror.frame = none) (y : Nat) : s.mirrorRow d y = s := by
  rcases h with rfl | h
  · rfl
  · cases d <;> simp only [State.mirrorRow, h]

/-- The row put out after the reader's part is composed from the tables as they stood before it. -/
theorem State.putRow_readRow (s : State) (d : Side) (c : Table) (y : Nat) :
    let t := (s.readRow d c y).1
    let x := t.disp.get d
    t.putRow d c (s.readRow d c y).2 y = t.setDisp d { x with
      rowOut := composeRow s.tables x c (s.readRow d c y).2 (displayWidth s.tables.raster d) y
      raster := x.raster.map fun r => { r with row := y + 1 } } := by
  intro t x
  have hrow : composeRow t.tables x c (s.readRow d c y).2 (displayWidth t.tables.raster d) y =
      composeRow s.tables x c (s.readRow d c y).2 (displayWidth s.tables.raster d) y := by
    rw [(s.readRow_spares d c y).2]
    rfl
  rw [State.putRow, hrow]

end Row

/-! The outputs of a screen (R60, R62) -/

section Outputs

variable {s : State} (d : Side) (line px : Nat)

theorem State.screenPins_stopped (h : s.unit.service = .cameraOnly) : s.screenPins d line px = .low := by
  rw [State.screenPins, State.media, h]; rfl

theorem State.screenPins_running (h : s.unit.service = .media) :
    let f := rasterField s.tables.raster d
    let de := decide (f 7 ≤ line ∧ line < f 7 + f 8 ∧ f 3 ≤ px ∧ px < f 3 + f 4)
    s.screenPins d line px = ⟨.running (pixelClock (f 0)), decide (px < f 2), decide (line < f 6), de,
      if de then (s.disp.get d).rowOut.getD (px - f 3) Rgb.black else Rgb.black⟩ := by
  rw [State.screenPins, State.media, h]; rfl

/-- The pixel clocks of Table 4-2. -/
theorem pixelClock_of_rate {code rate : Nat} (h : [24000, 33000, 48000, 66000][code]? = some rate) :
    pixelClock code = rate := by
  match code, h with
  | 0, h | 1, h | 2, h | 3, h => exact Option.some.inj h

end Outputs

/-- Settles O40: the row's step is the reader's part, the composed row and the mirror; then the rows that are not due,
the screen's outputs, and the order in which a pixel is composed. -/
theorem activeRowComposes : Obligations.ActiveRowComposes := by
  refine ⟨?_, fun s d hs h => exec_activeRow_notDue hs h, ?_, ?_⟩
  · intro s d c y hs hdue hc inWindow read s1 source x pixel out s2
    have hput : (s.readRow d c y).1.putRow d c (s.readRow d c y).2 y = s2 := by
      rw [State.putRow_readRow, State.readRow_eq]
      rfl
    have hmirror : s2.mirror = s.mirror := by
      rw [← hput, State.putRow_mirror, (s.readRow_spares d c y).1]
    have hexec : exec (.activeRow d) s = .next (s2.mirrorRow d y) := by
      rw [exec_activeRow_due hs hdue hc, State.activeRow, hput]
    rw [hexec]
    refine ⟨fun tag hd htag => ?_, fun hplain => ?_⟩
    · subst hd
      rw [State.mirrorRow_mirrored (hmirror ▸ htag)]
      rfl
    · rw [State.mirrorRow_plain (hmirror ▸ hplain)]
  · intro s d line px f pins
    have hf : rasterField s.tables.raster d = f := by cases d <;> rfl
    refine ⟨fun h => State.screenPins_stopped d line px h, fun h => ?_⟩
    have hpins : pins = _ := State.screenPins_running d line px h
    rw [hf] at hpins
    rw [hpins]
    refine ⟨fun rate hrate => congrArg ClockOut.running (pixelClock_of_rate hrate), decide_eq_true_iff,
      decide_eq_true_iff, decide_eq_true_iff.trans and_assoc.symm, fun hde => ?_, fun i hi hde => ?_⟩
    · exact if_neg (Bool.eq_false_iff.mp hde)
    · rw [show i = px - f 3 by omega]
      exact if_pos hde
  · intro t v c source y i background inColumns film shaded base
    have hfilm : filmPixel (source.getD .fill) (refColour t.palettes (c.nat 6)) (c.nat 5) (i - c.nat 1) = film := by
      rcases source with _ | _ | row <;> rfl
    rw [composePixel, basePixel_eq, hfilm]
    rfl

end Sys2Proof.Machine
end

section
/-! The Steering Counter: what a filter sample makes of it (O43). -/

namespace Sys2Proof.Machine

open Sys2Proof

/-! Taking a new state (R85) -/

/-- Besides the counter, only a change of its state reaches the part: as one STEER notice. -/
theorem State.setSteer_eq (s : State) (x : Steering) : s.setSteer x = { s with
    steer := x
    notices := if x.state = s.steer.state then s.notices else (s.offerNotice .steer 0 x.state.code).notices } := by
  simp only [State.setSteer]
  split <;> rfl

@[simp] theorem State.setSteer_steer (s : State) (x : Steering) : (s.setSteer x).steer = x := by
  rw [State.setSteer_eq]

@[simp] theorem State.setSteer_notices (s : State) (x : Steering) : (s.setSteer x).notices =
    if x.state = s.steer.state then s.notices else (s.offerNotice .steer 0 x.state.code).notices := by
  rw [State.setSteer_eq]

theorem exec_filterSample {s : State} (h : s.held = none) (a b ix : Bool) :
    exec (.filterSample a b ix) s = .next (s.setSteer (s.steer.sample (steerSetup s.tables.steering) a b ix)) :=
  whenLive_live h fun s => s.setSteer (s.steer.sample (steerSetup s.tables.steering) a b ix)

/-! The limit (R82) -/

theorem clampCount_within {limit c : Int} (hlow : -limit ≤ c) (hhigh : c ≤ limit) : clampCount limit c = c := by
  rw [clampCount, if_neg (not_lt.mpr hhigh), if_neg (not_lt.mpr hlow)]

theorem clampCount_above {limit c : Int} (h : limit < c) : clampCount limit c = limit := if_pos h

theorem clampCount_below {limit c : Int} (hhigh : c ≤ limit) (h : c < -limit) : clampCount limit c = -limit := by
  rw [clampCount, if_neg (not_lt.mpr hhigh), if_pos h]

/-! An accepted index edge and a step, by where the new count lies (R82, R84) -/

section Limit

variable {st : Steering} {setup : SteerSetup}

theorem Steering.takeIndex_within (hlow : -setup.limit ≤ setup.indexValue) (hhigh : setup.indexValue ≤ setup.limit) :
    st.takeIndex setup = { st with state := .referenced, count := setup.indexValue } := by
  simp [Steering.takeIndex, clampCount_within hlow hhigh]

theorem Steering.takeIndex_above (h : setup.limit < setup.indexValue) :
    st.takeIndex setup = { st with state := .referenced, count := setup.limit, limitFlag := true } := by
  simp [Steering.takeIndex, clampCount_above h, h.ne]

theorem Steering.takeIndex_below (hhigh : setup.indexValue ≤ setup.limit) (h : setup.indexValue < -setup.limit) :
    st.takeIndex setup = { st with state := .referenced, count := -setup.limit, limitFlag := true } := by
  simp [Steering.takeIndex, clampCount_below hhigh h, h.ne']

theorem Steering.stepCount_within {d : Direction} {c : Int} (hc : st.count + stepAmount setup.invert d = c)
    (hlow : -setup.limit ≤ c) (hhigh : c ≤ setup.limit) : st.stepCount setup d = { st with count := c } := by
  simp [Steering.stepCount, hc, clampCount_within hlow hhigh]

theorem stepAmount_unit (invert : Bool) (d : Direction) : stepAmount invert d = 1 ∨ stepAmount invert d = -1 := by
  cases invert <;> cases d <;> decide

/-- A step that points past the limit finds the count at the limit, and leaves it there. -/
theorem Steering.stepCount_stops {d : Direction} {c : Int} (hc : st.count + stepAmount setup.invert d = c)
    (hlow : -setup.limit ≤ st.count) (hhigh : st.count ≤ setup.limit) (hout : c < -setup.limit ∨ setup.limit < c) :
    st.stepCount setup d = { st with limitFlag := true } := by
  have hunit := stepAmount_unit setup.invert d
  have hclamp : clampCount setup.limit c = st.count := by
    rcases hout with hbelow | habove
    · rw [clampCount_below (by omega) hbelow]; omega
    · rw [clampCount_above habove]; omega
  have hmoved : st.count ≠ c := by omega
  simp [Steering.stepCount, hc, hclamp, hmoved]

end Limit

/-! Decoding (R80, R81) -/

/-- The steps along 00, 01, 11, 10. -/
def forwardSteps : List ((Bool × Bool) × (Bool × Bool)) :=
  [((false, false), (false, true)), ((false, true), (true, true)), ((true, true), (true, false)),
    ((true, false), (false, false))]

theorem decodePair_forward_iff : ∀ p q : Bool × Bool, decodePair p q = .step .forward ↔ (p, q) ∈ forwardSteps := by
  decide

theorem decodePair_backward_iff : ∀ p q : Bool × Bool, decodePair p q = .step .backward ↔ (q, p) ∈ forwardSteps := by
  decide

theorem decodePair_illegal_iff : ∀ p q : Bool × Bool, decodePair p q = .illegal ↔ p.1 ≠ q.1 ∧ p.2 ≠ q.2 := by
  decide

/-- Table 5-4. -/
theorem indexAccepted_iff (mode : Nat) (dir : Option Direction) (prev new : Bool) :
    indexAccepted mode dir prev new = true ↔
      (mode = 0 ∧ ((prev = false ∧ new = true) ∧ dir = some .forward ∨ (prev = true ∧ new = false) ∧ dir = some .backward)) ∨
      (mode = 1 ∧ (prev = false ∧ new = true)) := by
  unfold indexAccepted
  split <;> simp_all

/-- What the filtered pair shows against the previous one. -/
def Steering.decoded (st : Steering) : Decoded := decodePair (st.prevA, st.prevB) (st.filtA.level, st.filtB.level)

/-- The last direction after any step of the sample (R80). -/
def Steering.direction (st : Steering) : Option Direction :=
  match st.decoded with
  | .step d => some d
  | _ => st.lastDir

/-- Whether the sample shows an index edge that is accepted (R83). -/
def Steering.accepts (st : Steering) (setup : SteerSetup) : Bool :=
  indexAccepted setup.indexMode st.direction st.prevIx st.filtIx.level

theorem Steering.direction_step {st : Steering} {d : Direction} (h : st.decoded = .step d) : st.direction = some d := by
  rw [Steering.direction, h]

theorem Steering.direction_none {st : Steering} (h : st.decoded = .none) : st.direction = st.lastDir := by
  rw [Steering.direction, h]

/-- The direction by whether the sample steps forward, backward or not. -/
theorem Steering.direction_eq (st : Steering) : st.direction =
    if st.decoded = .step .forward then some .forward
    else if st.decoded = .step .backward then some .backward else st.lastDir := by
  rw [Steering.direction]
  cases st.decoded with
  | none | illegal => rfl
  | step d => cases d <;> rfl

theorem Steering.stepAmount_eq {st : Steering} {d : Direction} (h : st.decoded = .step d) (n : Nat) :
    stepAmount (decide (n = 1)) d =
      if (st.decoded = .step .forward ∧ n = 1) ∨ (st.decoded = .step .backward ∧ n ≠ 1) then -1 else 1 := by
  rw [h]
  cases d <;> by_cases hn : n = 1 <;> simp [stepAmount, hn]

section Decode

variable {st : Steering} {setup : SteerSetup}

theorem Steering.decode_illegal (h : st.decoded = .illegal) : st.decode setup = st.takeIllegal := by
  rw [Steering.decoded] at h
  rw [Steering.decode, h]

theorem Steering.decode_still (h : st.decoded = .none) (hindex : st.accepts setup = false) : st.decode setup = st := by
  rw [Steering.accepts, Steering.direction_none h] at hindex
  rw [Steering.decoded] at h
  simp [Steering.decode, h, hindex]

theorem Steering.decode_step {d : Direction} (h : st.decoded = .step d) (hindex : st.accepts setup = false) :
    st.decode setup = { (st.stepCount setup d) with lastDir := st.direction } := by
  rw [Steering.accepts] at hindex
  rw [Steering.direction_step h] at hindex ⊢
  rw [Steering.decoded] at h
  simp [Steering.decode, h, hindex]

/-- An accepted index edge takes the place of the step (R84). -/
theorem Steering.decode_index (hlegal : st.decoded ≠ .illegal) (hindex : st.accepts setup = true) :
    st.decode setup = { (st.takeIndex setup) with lastDir := st.direction } := by
  rw [Steering.accepts] at hindex
  cases h : st.decoded with
  | illegal => exact absurd h hlegal
  | none =>
    rw [Steering.direction_none h] at hindex ⊢
    rw [Steering.decoded] at h
    simp [Steering.decode, h, hindex, Steering.takeIndex]
  | step d =>
    rw [Steering.direction_step h] at hindex ⊢
    rw [Steering.decoded] at h
    simp [Steering.decode, h, hindex]

end Decode

/-! One sample (R79, R89) -/

theorem Steering.sample_fresh {st : Steering} (h : st.fresh = true) (setup : SteerSetup) (a b ix : Bool) :
    st.sample setup a b ix = st.firstSample a b ix := if_pos h

theorem Steering.sample_off {st : Steering} (h : st.fresh = false) (hoff : st.state = .off) (setup : SteerSetup)
    (a b ix : Bool) : st.sample setup a b ix = (st.filtered setup a b ix).remember := by
  simp [Steering.sample, h, hoff]

theorem Steering.sample_decodes {st : Steering} (h : st.fresh = false) (hon : st.state ≠ .off) (setup : SteerSetup)
    (a b ix : Bool) : st.sample setup a b ix = ((st.filtered setup a b ix).decode setup).remember := by
  simp [Steering.sample, h, hon]

/-- Settles O43: the filtered pair decides what is decoded, and the direction after its step decides the index. -/
theorem filterSampleDecodes : Obligations.FilterSampleDecodes := by
  intro s a b ix hs st word filtered
  have hsteer := s.setSteer_steer (s.steer.sample (steerSetup s.tables.steering) a b ix)
  refine ⟨_, exec_filterSample hs a b ix, ?_, ?_, fun hfresh => ?_, fun hlive => ?_⟩
  · rw [hsteer]
    exact (s.setSteer_eq _).trans (by rw [State.setSteer_notices])
  · rw [State.setSteer_notices, hsteer]
  · rw [hsteer]
    exact Steering.sample_fresh hfresh _ a b ix
  intro fA fB fIx after pair forward backward illegal dir rising falling accepted limit index amount
  rw [hsteer]
  let setup := steerSetup s.tables.steering
  let f := st.filtered setup a b ix
  have hforward : f.decoded = .step .forward ↔ forward := decodePair_forward_iff _ _
  have hbackward : f.decoded = .step .backward ↔ backward := decodePair_backward_iff _ _
  have hillegal : f.decoded = .illegal ↔ illegal := decodePair_illegal_iff _ _
  have hdir : f.direction = dir := f.direction_eq.trans (if_congr hforward rfl (if_congr hbackward rfl rfl))
  have haccepts : f.accepts setup = true ↔ accepted := by
    rw [Steering.accepts, hdir]
    exact indexAccepted_iff _ _ _ _
  have hrefuses : ¬ accepted → f.accepts setup = false := fun h => Bool.eq_false_iff.mpr (mt haccepts.mp h)
  have hsteps : forward ∨ backward →
      ∃ d, f.decoded = .step d ∧ st.count + stepAmount setup.invert d = st.count + amount := by
    intro h
    obtain ⟨d, hd⟩ : ∃ d, f.decoded = .step d := h.elim (fun h => ⟨_, hforward.mpr h⟩) fun h => ⟨_, hbackward.mpr h⟩
    exact ⟨d, hd, congrArg (st.count + ·) ((Steering.stepAmount_eq hd _).trans
      (if_congr (or_congr (and_congr_left' hforward) (and_congr_left' hbackward)) rfl rfl))⟩
  have hsample : st.state ≠ .off → st.sample setup a b ix = (f.decode setup).remember :=
    fun hon => Steering.sample_decodes hlive hon setup a b ix
  have hindex : st.state ≠ .off → ¬ illegal → accepted →
      st.sample setup a b ix = Steering.remember { (f.takeIndex setup) with lastDir := dir } := by
    intro hon hlegal hacc
    rw [hsample hon, Steering.decode_index (mt hillegal.mp hlegal) (haccepts.mpr hacc), hdir]
  refine ⟨fun hoff => ?_, fun hon hill => ?_, fun hon hlegal hacc hlow hhigh => ?_, fun hon hlegal hacc habove => ?_,
    fun hon hlegal hacc hhigh hbelow => ?_, fun hon hlegal hno hnf hnb => ?_, fun hon hno hstep hlow hhigh => ?_,
    fun hon hno hstep hlow hhigh hout => ?_⟩
  · exact Steering.sample_off hlive hoff setup a b ix
  · rw [hsample hon, Steering.decode_illegal (hillegal.mpr hill)]
    rfl
  · rw [hindex hon hlegal hacc, Steering.takeIndex_within hlow hhigh]
    rfl
  · rw [hindex hon hlegal hacc, Steering.takeIndex_above habove]
    rfl
  · rw [hindex hon hlegal hacc, Steering.takeIndex_below hhigh hbelow]
    rfl
  · have hstill : f.decoded = .none :=
      match h : f.decoded with
      | .none => rfl
      | .illegal => absurd (hillegal.mp h) hlegal
      | .step .forward => absurd (hforward.mp h) hnf
      | .step .backward => absurd (hbackward.mp h) hnb
    rw [hsample hon, Steering.decode_still hstill (hrefuses hno)]
    rfl
  · obtain ⟨d, hd, hmoved⟩ := hsteps hstep
    rw [hsample hon, Steering.decode_step hd (hrefuses hno), hdir, Steering.stepCount_within (st := f) hmoved hlow hhigh]
    rfl
  · obtain ⟨d, hd, hmoved⟩ := hsteps hstep
    rw [hsample hon, Steering.decode_step hd (hrefuses hno), hdir,
      Steering.stepCount_stops (st := f) hmoved hlow hhigh hout]
    rfl

end Sys2Proof.Machine
end

section
/-! A PUT to STEERING: what it stores, and what the enable and the limit make of the Steering Counter (O19). -/

namespace Sys2Proof.Machine

open Sys2Proof

/-! A PUT that writes all its words (R20) -/

/-- Steps 2 to 4 of R18 pass together. -/
theorem requestRefusal_none_iff (n : RequestName) (v : Service) (r : QueuedRequest) :
    requestRefusal n v r = none ↔ lengthRight n r = true ∧ serviceAllows n v = true ∧ argsRight n r = true := by
  unfold requestRefusal
  split_ifs <;> simp_all

/-- A PUT that is carried out brings at least one word. -/
theorem State.takes_put_words {s : State} {r : QueuedRequest} {q : List QueuedRequest} (h : s.takes .put r q) :
    r.payload.drop 2 ≠ [] := by
  obtain ⟨-, -, hpass⟩ := h
  obtain ⟨hlength, -, hargs⟩ := (requestRefusal_none_iff _ _ _).mp hpass
  obtain ⟨-, hcount⟩ := of_decide_eq_true hlength
  obtain ⟨hone, -⟩ := of_decide_eq_true hargs
  rw [Ne, List.drop_eq_nil_iff]
  omega

/-- A run that passes its tests and lies within its table is stored whole. -/
theorem State.put_whole {s : State} {t : TableId} {ws : List Word} (ht : s.unit.pointer.table = t) (hne : ws ≠ [])
    (hfit : ws.length ≤ tableSize t - s.unit.pointer.index)
    (hpass : (s.readyFor t).putRefusal t s.unit.pointer.index ws = none) :
    s.put ws = .done (((s.readyFor t).putWords t s.unit.pointer.index ws).setPointer t
      (s.unit.pointer.index + ws.length)) := by
  subst ht
  simp [State.put, List.take_of_length_le hfit, hpass, hne]

/-! The enable and the limit (R82, R86) -/

/-- A written enable brings the counter out of OFF. -/
def Steering.starts (st : Steering) (written on : Bool) : Bool := written && on && decide (st.state = .off)

/-- A written enable takes the counter to OFF. -/
def Steering.stops (st : Steering) (written on : Bool) : Bool := written && !on && decide (st.state ≠ .off)

theorem Steering.writeEnable_eq (st : Steering) (written on : Bool) :
    (if written then st.writeEnable on else st) = { st with
      state := if st.starts written on then .unreferenced else if st.stops written on then .off else st.state
      count := if st.starts written on then 0 else st.count
      lastDir := if st.starts written on || st.stops written on then none else st.lastDir } := by
  cases written
  case false => rfl
  case true =>
    obtain ⟨state⟩ := st
    cases on <;> cases state <;> rfl

/-- A written enable changes the state exactly where it starts or stops the counter. -/
theorem Steering.writeEnable_state_iff (st : Steering) (written on : Bool) :
    (if written then st.writeEnable on else st).state = st.state ↔
      (st.starts written on || st.stops written on) = false := by
  cases written
  case false => simp [Steering.starts, Steering.stops]
  case true =>
    by_cases hoff : st.state = .off
    · cases on <;> simp [Steering.writeEnable, Steering.starts, Steering.stops, hoff]
    · cases on <;> simp [Steering.writeEnable, Steering.starts, Steering.stops, hoff, Ne.symm hoff]

/-! A PUT to STEERING -/

theorem State.putSteering_setup {s : State} {i : Nat} (hi : i ≤ 5) (ws : List Word) :
    s.putSteering i ws = State.setSteer { s with tables := { s.tables with steering := s.tables.steering.writeFrom i ws } }
      (s.steer.applySetup (decide (i = 0)) (steerSetup (s.tables.steering.writeFrom i ws))) := if_pos hi

theorem State.putSteering_flag {s : State} {i : Nat} (hi : 5 < i) (ws : List Word) :
    s.putSteering i ws = { s with steer := { s.steer with limitFlag := false } } := if_neg (not_le.mpr hi)

theorem State.putSteering_steering {s : State} {i : Nat} (hi : i ≤ 5) (ws : List Word) :
    (s.putSteering i ws).tables.steering = s.tables.steering.writeFrom i ws := by
  rw [State.putSteering_setup hi, State.setSteer_tables]

theorem State.putSteering_steer {s : State} {i : Nat} (hi : i ≤ 5) (ws : List Word) :
    (s.putSteering i ws).steer =
      s.steer.applySetup (decide (i = 0)) (steerSetup (s.tables.steering.writeFrom i ws)) := by
  rw [State.putSteering_setup hi, State.setSteer_steer]

/-- The limit leaves the steering state, so only the enable gives a notice (R85). -/
theorem State.putSteering_notices {s : State} {i : Nat} (hi : i ≤ 5) (ws : List Word) :
    (s.putSteering i ws).notices =
      let on := (steerSetup (s.tables.steering.writeFrom i ws)).enable
      if s.steer.starts (decide (i = 0)) on || s.steer.stops (decide (i = 0)) on then
        (s.offerNotice .steer 0 (s.putSteering i ws).steer.state.code).notices
      else s.notices := by
  have hkept := s.steer.writeEnable_state_iff (decide (i = 0)) (steerSetup (s.tables.steering.writeFrom i ws)).enable
  rw [State.putSteering_steer hi, State.putSteering_setup hi, State.setSteer_notices, ← ite_not]
  exact if_congr ((not_congr hkept).trans (Bool.not_eq_false _).to_iff) rfl rfl

/-- A PUT to STEERING reaches the setup words, the Steering Counter and the notices, and nothing else. -/
theorem State.putSteering_frame (s : State) (i : Nat) (ws : List Word) : s.putSteering i ws = { s with
    tables := { s.tables with steering := (s.putSteering i ws).tables.steering }
    steer := (s.putSteering i ws).steer
    notices := (s.putSteering i ws).notices } := by
  rcases le_or_gt i 5 with hi | hi
  · rw [State.putSteering_setup hi, State.setSteer_eq]
  · rw [State.putSteering_flag hi]

/-- Settles O19: the run is stored whole, then the enable and the limit act on the counter, or word 8 on its flag. -/
theorem steeringSetupWrite : Obligations.SteeringSetupWrite := by
  intro s r q htakes _ htable i ws hpass hfit st
  refine ⟨((s.withQueue q).putSteering i ws).setPointer .steering (i + ws.length), ?_, ?_, fun hi => ?_, ?_⟩
  · have hput : putBody r (s.withQueue q) = _ :=
      State.put_whole (s := s.withQueue q) htable (State.takes_put_words htakes) hfit hpass
    rw [show Instr.put = RequestName.put.command from rfl, State.exec_takes htakes, RequestName.body, hput]
    rfl
  · rw [State.putSteering_frame]
    rfl
  · rw [State.putSteering_flag (by omega)]
    exact ⟨rfl, rfl, rfl⟩
  · intro hi limit hlimit written on starts stops c c'
    have hstored : _ = s.tables.steering.writeFrom i ws := State.putSteering_steering (s := s.withQueue q) hi ws
    have hon : on = (steerSetup (s.tables.steering.writeFrom i ws)).enable :=
      congrArg (fun t : Table => decide (t.nat 0 = 1)) hstored
    have hlimit' : limit = (steerSetup (s.tables.steering.writeFrom i ws)).limit :=
      hlimit.trans (congrArg (fun t : Table => (t.nat 3 : Int)) hstored)
    refine ⟨(State.putSteering_steer (s := s.withQueue q) hi ws).trans ?_,
      (State.putSteering_notices (s := s.withQueue q) hi ws).trans ?_⟩
    · rw [State.withQueue_tables, Steering.applySetup, ← hon, ← hlimit', Steering.writeEnable_eq]
      rfl
    · rw [State.withQueue_tables, ← hon]
      rfl

end Sys2Proof.Machine
end

section
/-! The reverse state, the actual view and the overlay hold: what their pins, requests and timers make of them (O23 to
O25). -/

namespace Sys2Proof.Machine

open Sys2Proof

section RearView

variable {s : State} {r : QueuedRequest} {q : List QueuedRequest}

/-! The actual view (R102, R103) -/

theorem RearView.viewOf_unloaded {v : RearView} (hauto : v.autocam = false) (hbank : v.bankLoaded = false) :
    v.viewOf = .none := by
  simp [RearView.viewOf, hauto, hbank]

theorem RearView.viewOf_loaded {v : RearView} (h : v.autocam = true ∨ v.bankLoaded = true) :
    v.viewOf = if v.reverse = .off then v.requested else .camera := by
  have hready : (!v.autocam && !v.bankLoaded) = false := by
    rcases h with h | h <;> simp [h]
  rw [RearView.viewOf, hready]
  cases v.reverse <;> rfl

theorem State.followView_changed (h : s.rear.viewOf ≠ s.rear.actual) : s.followView = { s with
    rear := { s.rear with actual := s.rear.viewOf, queue := [], camFlag := none }
    mirror := { s.mirror with frame := none } } := if_neg h

/-- Whether it changes or not, the view is then the one its inputs give, and the inputs stay. -/
theorem State.followView_noticeValue (s : State) :
    s.followView.rear.noticeValue = Word.ofBytes s.rear.reverse.code s.rear.viewOf.code := by
  by_cases h : s.rear.viewOf = s.rear.actual
  · rw [State.followView_same h, RearView.noticeValue, h]
  · rw [State.followView_changed h]; rfl

theorem State.refreshView_changed (h : s.rear.viewOf ≠ s.rear.actual) : s.refreshView =
    s.followView.offerNotice .reverse 0 (Word.ofBytes s.rear.reverse.code s.rear.viewOf.code) := by
  rw [State.refreshView, if_neg h, State.offerReverse, State.followView_noticeValue]

theorem viewOfArg_eq (n : Nat) : viewOfArg n = if n = 0 then .none else if n = 1 then .camera else .mirror := by
  rcases n with _ | _ | n <;> simp [viewOfArg]

/-- Settles O24: the view by the loaded bank and the reverse state, then what its change clears. -/
theorem viewFollowsInputs : Obligations.ViewFollowsInputs := by
  refine ⟨fun v => ⟨RearView.viewOf_unloaded, fun h hrev => ?_, fun h hrev => ?_⟩, fun s => ⟨fun h => ?_, fun h => ?_⟩,
    fun s r q h => ?_⟩
  · rw [RearView.viewOf_loaded h, if_neg hrev]
  · rw [RearView.viewOf_loaded h, if_pos hrev]
  · exact ⟨State.followView_same h, State.refreshView_same h⟩
  · exact ⟨State.followView_changed h, State.refreshView_changed h⟩
  · rw [← viewOfArg_eq]
    exact State.exec_takes h

/-! The reverse state (R100, R101) -/

theorem State.changeReverse_eq (s : State) (r : ReverseState) (timer : Option Nat) :
    let u : State := { s with rear := { s.rear with reverse := r, linger := timer } }
    s.changeReverse r timer = u.followView.offerNotice .reverse 0 (Word.ofBytes r.code u.rear.viewOf.code) :=
  congrArg (State.offerNotice _ .reverse 0) (State.followView_noticeValue _)

/-- A change of reverse state is nothing to the Chime Engine, so the level moves from where it stood. -/
theorem State.changeReverse_setAdmission (s : State) (r : ReverseState) (timer : Option Nat) (l : Nat) :
    (s.changeReverse r timer).setAdmission l =
      { s.changeReverse r timer with chimes := s.chimes.moveLevel s.tables.chimes l } := by
  simp [State.setAdmission, State.changeReverse]

theorem State.evalReverse_enters (hsource : s.reverseSource = true) (hoff : s.rear.reverse = .off) :
    s.evalReverse = { s.changeReverse .on none with
      chimes := (s.chimes.moveLevel s.tables.chimes (s.tables.control.nat 11)).request s.tables.chimes
        (s.tables.control.nat 12) } := by
  have htables : (s.changeReverse .on none).tables = s.tables := by simp [State.changeReverse]
  simp only [State.evalReverse, hsource, hoff, State.changeReverse_setAdmission, State.requestChime, htables]

theorem State.evalReverse_returns (hsource : s.reverseSource = true) (hlinger : s.rear.reverse = .linger) :
    s.evalReverse = { s.changeReverse .on none with
      chimes := s.chimes.moveLevel s.tables.chimes (s.tables.control.nat 11) } := by
  simp only [State.evalReverse, hsource, hlinger, State.changeReverse_setAdmission]

theorem State.evalReverse_leaves (hsource : s.reverseSource = false) (hon : s.rear.reverse = .on) :
    s.evalReverse = { (if 0 < s.tables.control.nat 10 then s.changeReverse .linger (some (s.tables.control.nat 10))
      else s.changeReverse .off none) with chimes := s.chimes.moveLevel s.tables.chimes 0 } := by
  simp only [State.evalReverse, hsource, hon, State.changeReverse_setAdmission]
  split <;> rfl

theorem State.evalReverse_stays (h : s.reverseSource = decide (s.rear.reverse = .on)) : s.evalReverse = s := by
  cases hrev : s.rear.reverse <;> simp [State.evalReverse, h, hrev]

theorem State.reverseSource_eq (s : State) :
    (s.tables.control.nat 9 = 0 → s.reverseSource = s.rear.reversePin.level) ∧
    (s.tables.control.nat 9 = 1 → s.reverseSource = s.rear.inband) ∧
    (s.tables.control.nat 9 = 2 → s.reverseSource = (s.rear.reversePin.level || s.rear.inband)) := by
  unfold State.reverseSource
  refine ⟨fun h => ?_, fun h => ?_, fun h => ?_⟩ <;> rw [h] <;> rfl

/-! The REVERSE pin and the linger timer (R99, R100) -/

theorem exec_reverseLevelChange (h : s.held = none) (samples : List Bool) :
    exec (.reverseLevelChange samples) s = .next (samples.foldl State.reverseSample s) :=
  whenLive_live h fun s => samples.foldl State.reverseSample s

theorem State.reverseSamples_pass (s : State) (x : Bool) (h : s.rear.reversePin = ⟨!x, 0⟩) :
    (List.replicate 20 x).foldl State.reverseSample s =
      State.evalReverse { s with rear := { s.rear with reversePin := ⟨x, 0⟩ } } := by
  rw [List.replicate_succ', List.foldl_append, State.reverseSamples_count s x h (by decide)]
  exact State.reverseSample_passes { s with rear := { s.rear with reversePin := ⟨!x, 19⟩ } } x rfl (by decide)

theorem exec_lingerExpiry_due (h : s.held = none) (hrev : s.rear.reverse = .linger) (hrun : s.rear.linger ≠ none) :
    exec .lingerExpiry s = .next (s.changeReverse .off none) := by
  rw [exec, execLingerExpiry, whenLive_live h, if_pos ⟨hrev, Option.isSome_iff_ne_none.mpr hrun⟩]

theorem exec_lingerExpiry_notDue (h : s.held = none) (hnot : s.rear.reverse ≠ .linger ∨ s.rear.linger = none) :
    exec .lingerExpiry s = .next s := by
  rw [exec, execLingerExpiry, whenLive_live h, if_neg]
  rintro ⟨hrev, hrun⟩
  rcases hnot with hnot | hnot
  · exact hnot hrev
  · exact Option.isSome_iff_ne_none.mp hrun hnot

/-- Settles O23: the sources reach one evaluation, which changes the reverse state in three of its six cases. -/
theorem reverseFollowsSource : Obligations.ReverseFollowsSource := by
  refine ⟨⟨fun s x n hs hpin hn => ?_, fun s x hs hpin => ?_, fun s r q h => ?_, State.reverseSource_eq⟩,
    fun s => ?_, fun s => exec_lingerExpiry_due, fun s => exec_lingerExpiry_notDue, State.changeReverse_eq⟩
  · rw [exec_reverseLevelChange hs, State.reverseSamples_count s x hpin hn]
  · rw [exec_reverseLevelChange hs, State.reverseSamples_pass s x hpin]
  · exact State.exec_takes h
  refine ⟨State.evalReverse_enters, State.evalReverse_returns, fun hsource hon hlinger => ?_,
    fun hsource hon hlinger => ?_, fun hsource hon => ?_, fun hsource hnot => ?_⟩
  · rw [State.evalReverse_leaves hsource hon, if_pos (Nat.pos_of_ne_zero hlinger)]
  · rw [State.evalReverse_leaves hsource hon, if_neg (Nat.not_lt.mpr hlinger.le)]
  · exact State.evalReverse_stays (by simp [hsource, hon])
  · exact State.evalReverse_stays (by simp [hsource, hnot])

/-! The overlay hold (R105) -/

theorem HoldState.react_caused (h : HoldState) : h.react true = if h = .free then .holdRequested else h := by
  cases h <;> rfl

theorem HoldState.react_uncaused (h : HoldState) : h.react false = if h = .held then .releaseRequested else h := by
  cases h <;> rfl

theorem State.setHoldRequest_true (s : State) : s.setHoldRequest true = { s with guide := { s.guide with
    holdRequest := true, hold := if s.guide.hold = .free then .holdRequested else s.guide.hold } } := by
  rw [← HoldState.react_caused]
  rfl

/-- Out of FREE the end of the HOLD request matters where the CAL level is no cause. -/
theorem State.setHoldRequest_false (h : s.guide.hold ≠ .free) : s.setHoldRequest false = { s with guide := { s.guide with
    holdRequest := false
    hold := if s.guide.hold = .held ∧ s.rear.calPin.level = false then .releaseRequested else s.guide.hold } } := by
  have hreact : s.guide.hold.react s.rear.calPin.level =
      if s.guide.hold = .held ∧ s.rear.calPin.level = false then .releaseRequested else s.guide.hold := by
    cases hlevel : s.rear.calPin.level with
    | false => simp [HoldState.react_uncaused]
    | true => simp [HoldState.react_caused, h]
  rw [← hreact]
  rfl

/-- A request is answered with what its own rule gives. -/
theorem State.exec_takes_body {n : RequestName} {a : Answer} (h : s.takes n r q) (ha : n.body r (s.withQueue q) = a) :
    exec n.command s = .next (a.finish r) :=
  ha ▸ State.exec_takes h

theorem exec_release_free (h : s.takes .release r q) (hfree : s.guide.hold = .free) :
    exec .release s = .next ((s.withQueue q).finish r .state [] none) :=
  State.exec_takes_body (a := .of (s.withQueue q) .state []) h (if_pos hfree)

theorem exec_release_bound (h : s.takes .release r q) (hbound : s.guide.hold ≠ .free) :
    exec .release s = .next (((s.withQueue q).setHoldRequest false).finish r .done [] none) :=
  State.exec_takes_body (a := .done ((s.withQueue q).setHoldRequest false)) h (if_neg hbound)

/-! The CAL pin (R99, R105) -/

theorem exec_calLevelChange (h : s.held = none) (samples : List Bool) :
    exec (.calLevelChange samples) s = .next (samples.foldl State.calSample s) :=
  whenLive_live h fun s => samples.foldl State.calSample s

theorem State.calSamples_pass (s : State) (x : Bool) (h : s.rear.calPin = ⟨!x, 0⟩) :
    (List.replicate 20 x).foldl State.calSample s =
      State.reactHold { s with rear := { s.rear with calPin := ⟨x, 0⟩ } } := by
  rw [List.replicate_succ', List.foldl_append, State.calSamples_count s x h (by decide)]
  exact State.calSample_passes { s with rear := { s.rear with calPin := ⟨!x, 19⟩ } } x rfl (by decide)

/-- What the hold makes of a CAL level, its other cause being the HOLD request. -/
theorem State.reactHold_calPin (s : State) (d : Debouncer) :
    State.reactHold { s with rear := { s.rear with calPin := d } } = { s with
      rear := { s.rear with calPin := d }
      guide := { s.guide with hold := s.guide.hold.react (s.guide.holdRequest || d.level) } } := rfl

/-- Settles O25: every cause that comes or goes reaches the hold through one reaction. -/
theorem holdFollowsCauses : Obligations.HoldFollowsCauses := by
  refine ⟨fun s r q h => ?_, fun s r q h => ⟨exec_release_free h, fun hbound => ?_⟩, fun s x n hs hpin hn => ?_,
    fun s hs hpin => ?_, fun s hs hpin => ?_⟩
  · refine (State.exec_takes h).trans ?_
    rw [RequestName.body, holdBody, State.setHoldRequest_true]
    rfl
  · rw [exec_release_bound h hbound, State.setHoldRequest_false (s := s.withQueue q) hbound]
    rfl
  · rw [exec_calLevelChange hs, State.calSamples_count s x hpin hn]
  · rw [exec_calLevelChange hs, State.calSamples_pass s true hpin, State.reactHold_calPin, Bool.or_true,
      HoldState.react_caused]
  · rw [exec_calLevelChange hs, State.calSamples_pass s false hpin, State.reactHold_calPin, Bool.or_false]
    cases hreq : s.guide.holdRequest with
    | false => simp [HoldState.react_uncaused]
    | true => simp [HoldState.react_caused]

end RearView

end Sys2Proof.Machine
end

section
/-! Frame syncs, line syncs and the sync watch (O44, O45). -/

namespace Sys2Proof.Machine

open Sys2Proof

section Syncs

variable {s : State}

/-! Frame syncs (R92 to R95) -/

/-- Whether a frame sync comes with an accepted line sync on its clock. -/
def CameraInput.acceptsToo (c : CameraInput) : Option Nat → Bool
  | some clocks => c.accepts clocks
  | none => false

theorem exec_frameSync (h : s.held = none) (hs : Option Nat) :
    exec (.frameSync hs) s = .next (s.frameSync (s.camera.acceptsToo hs)) := by
  rw [exec, execFrameSync, whenLive_live h]
  cases hs <;> rfl

theorem goodFrame_iff (d : Table) (n : Nat) : goodFrame d n = true ↔ d.nat 1 ≤ n + 4 ∧ n ≤ d.nat 1 + 4 :=
  decide_eq_true_iff

/-- The state once a frame sync has ended one measured frame and begun the next (R92). -/
def State.measuring (s : State) (lineToo : Bool) : State := { s with camera := s.camera.beginMeasured lineToo }

/-- What the frame sync ends: the frame being measured, if there was one, and whether it was good. -/
def CameraInput.ended (c : CameraInput) : Option Bool := c.measured.map (goodFrame c.latched)

theorem CameraInput.ended_none {c : CameraInput} (h : c.measured = none) : c.ended = none := by
  rw [CameraInput.ended, h]; rfl

theorem CameraInput.ended_good {c : CameraInput} {n : Nat} (h : c.measured = some n)
    (hn : c.latched.nat 1 ≤ n + 4 ∧ n ≤ c.latched.nat 1 + 4) : c.ended = some true := by
  rw [CameraInput.ended, h, Option.map_some, (goodFrame_iff _ _).mpr hn]

theorem CameraInput.ended_bad {c : CameraInput} {n : Nat} (h : c.measured = some n)
    (hn : ¬ (c.latched.nat 1 ≤ n + 4 ∧ n ≤ c.latched.nat 1 + 4)) : c.ended = some false := by
  rw [CameraInput.ended, h, Option.map_some, Bool.eq_false_iff.mpr (mt (goodFrame_iff _ _).mp hn)]

theorem State.frameSync_noSignal (h : s.camera.state = .noSignal) (lineToo : Bool) :
    s.frameSync lineToo = (s.measuring lineToo).syncNoSignal := by
  rw [State.frameSync, h]; rfl

theorem State.frameSync_acquiring (h : s.camera.state = .acquiring) {good : Option Bool} (hgood : s.camera.ended = good)
    (lineToo : Bool) : s.frameSync lineToo = (s.measuring lineToo).syncAcquiring good lineToo := by
  rw [State.frameSync, h, ← hgood]; rfl

theorem State.frameSync_locked (h : s.camera.state = .locked) {good : Option Bool} (hgood : s.camera.ended = good)
    (lineToo : Bool) : s.frameSync lineToo = (s.measuring lineToo).syncLocked good lineToo := by
  rw [State.frameSync, h, ← hgood]; rfl

/-- A first bad frame is counted, and the next one begins all the same. -/
theorem State.syncLocked_firstBad (h : s.camera.bad = 0) (lineToo : Bool) : s.syncLocked (some false) lineToo =
    (State.cameraFrameStart { s with camera := { s.camera with lineSeen := lineToo, bad := 1 } }).startWatch := by
  simp [State.syncLocked, State.markLineSeen, h]

/-- Settles O44: Table 6-3 by the camera state, by the frame that ended, and by the frames before it. -/
theorem frameSyncFollowsCamera : Obligations.FrameSyncFollowsCamera := by
  intro s hs hlive c line good base with_ watched started answer
  have hanswer : answer = .next (s.frameSync line) := by
    have hline : s.camera.acceptsToo hs = line := by cases hs <;> rfl
    rw [← hline]
    exact exec_frameSync hlive hs
  rw [hanswer]
  refine ⟨fun hstate => ?_, fun hstate hm => ?_, fun n hstate hm => ⟨fun hbad => ?_, fun hgood hfew => ?_,
    fun hgood hmany => ?_⟩, fun hstate hm => ?_, fun n hstate hm => ⟨fun hgood => ?_, fun hbad hfirst => ?_,
    fun hbad hsecond => ?_⟩⟩
  · rw [State.frameSync_noSignal hstate]; rfl
  · rw [State.frameSync_acquiring hstate (CameraInput.ended_none hm)]; rfl
  · rw [State.frameSync_acquiring hstate (CameraInput.ended_bad hm hbad)]; rfl
  · rw [State.frameSync_acquiring hstate (CameraInput.ended_good hm hgood)]
    exact congrArg Host.Outcome.next (if_neg (Nat.not_le.mpr hfew))
  · rw [State.frameSync_acquiring hstate (CameraInput.ended_good hm hgood)]
    exact congrArg Host.Outcome.next (if_pos hmany)
  · rw [State.frameSync_locked hstate (CameraInput.ended_none hm)]; rfl
  · rw [State.frameSync_locked hstate (CameraInput.ended_good hm hgood)]; rfl
  · rw [State.frameSync_locked hstate (CameraInput.ended_bad hm hbad)]
    exact congrArg Host.Outcome.next (State.syncLocked_firstBad (s := s.measuring line) hfirst line)
  · rw [State.frameSync_locked hstate (CameraInput.ended_bad hm hbad)]
    exact congrArg Host.Outcome.next (if_pos hsecond)

/-! Line syncs (R92, R94) -/

theorem CameraInput.accepts_iff (c : CameraInput) (clocks : Nat) :
    c.accepts clocks = true ↔ c.synced = false ∨ c.latched.nat 6 < clocks := by
  rw [CameraInput.accepts, Bool.or_eq_true, Bool.not_eq_true', decide_eq_true_eq, syncGuard]

theorem exec_lineSync (h : s.held = none) (clocks : Nat) : exec (.lineSync clocks) s =
    .next (if s.camera.accepts clocks then { s with camera := s.camera.lineSync } else s) :=
  whenLive_live h fun s => if s.camera.accepts clocks then { s with camera := s.camera.lineSync } else s

theorem CameraInput.lineSync_eq (c : CameraInput) : c.lineSync = { c with
    synced := true
    line := c.line + 1
    measured := c.measured.map (· + 1)
    lineSeen := if c.state = .locked then true else c.lineSeen
    watch := if c.state = .acquiring then some (c.latched.nat 7 * 3 / 2) else c.watch } := by
  have hseen : (c.lineSeen || decide (c.state = .locked)) = if c.state = .locked then true else c.lineSeen := by
    by_cases h : c.state = .locked <;> simp [h]
  rw [← hseen]
  rfl

/-! The sync watch (R94 to R96) -/

theorem CameraInput.fillFrame_eq (c : CameraInput) :
    c.fillFrame = c.frame.map fun f => if f.kind = .camera then ⟨.fill, f.nextRow⟩ else f := by
  unfold CameraInput.fillFrame
  rcases c.frame with _ | ⟨_ | _ | _, n⟩ <;> rfl

theorem exec_syncWatchExpiry_idle (h : s.held = none) (hidle : s.camera.watch = none ∨ s.camera.state = .noSignal) :
    exec .syncWatchExpiry s = .next s := by
  rw [exec, execSyncWatchExpiry, whenLive_live h]
  rcases hidle with hw | hstate
  · rw [hw]; rfl
  · rw [hstate]; exact congrArg Host.Outcome.next (ite_self s)

theorem exec_syncWatchExpiry_acquiring (h : s.held = none) (hw : s.camera.watch ≠ none)
    (hstate : s.camera.state = .acquiring) : exec .syncWatchExpiry s = .next s.watchAcquiring := by
  rw [exec, execSyncWatchExpiry, whenLive_live h, if_neg (by simpa using hw), hstate]

theorem exec_syncWatchExpiry_locked (h : s.held = none) (hw : s.camera.watch ≠ none)
    (hstate : s.camera.state = .locked) : exec .syncWatchExpiry s = .next s.watchLocked := by
  rw [exec, execSyncWatchExpiry, whenLive_live h, if_neg (by simpa using hw), hstate]

/-- Settles O45: the guard decides a line sync; the line-seen flag decides where a loss of lock leads. -/
theorem lineSyncAndWatch : Obligations.LineSyncAndWatch := by
  intro s hs c with_ period accepted filled
  have hfilled : c.fillFrame = filled := c.fillFrame_eq
  refine ⟨fun clocks hno => ?_, fun clocks hacc => ?_, exec_syncWatchExpiry_idle hs, fun hw hstate => ?_,
    fun hw hstate hseen => ?_, fun hw hstate hseen => ?_⟩
  · rw [exec_lineSync hs, if_neg (mt (s.camera.accepts_iff clocks).mp hno)]
  · rw [exec_lineSync hs, if_pos ((s.camera.accepts_iff clocks).mpr hacc), CameraInput.lineSync_eq]
  · exact exec_syncWatchExpiry_acquiring hs hw hstate
  · rw [exec_syncWatchExpiry_locked hs hw hstate, ← hfilled, State.watchLocked, if_neg (ne_true_of_eq_false hseen)]
    rfl
  · rw [exec_syncWatchExpiry_locked hs hw hstate, ← hfilled, State.watchLocked, if_pos hseen]
    rfl

end Syncs

end Sys2Proof.Machine
end

section
/-! Rows of a camera frame, from their completion to the upstream picture queue (O47, O48). -/

namespace Sys2Proof.Machine

open Sys2Proof

section Rows

variable {s : State}

/-! Which row is due (R96, R97) -/

theorem CameraInput.rowDue_eq {c : CameraInput} {next y : Nat} (hframe : c.frame = some ⟨.camera, next⟩)
    (hline : c.line = c.latched.nat 3 + y) (hheight : y < c.latched.nat 5) (hnext : next ≤ y) : c.rowDue = some y := by
  have hrow : c.line - startLine c.latched = y := by rw [startLine]; omega
  rw [CameraInput.rowDue, hframe]
  simp only [hrow]
  exact if_pos ⟨by rw [startLine]; omega, hheight, hnext⟩

theorem CameraInput.timedRow_due {c : CameraInput} {kind : RowKind} {y : Nat} (hframe : c.frame = some ⟨kind, y⟩)
    (hheight : y < c.latched.nat 5) : c.timedRow kind = some y := by
  rw [CameraInput.timedRow, hframe]
  exact if_pos ⟨rfl, hheight⟩

theorem CameraInput.timedRow_notDue {c : CameraInput} {kind : RowKind}
    (hnot : ∀ y, c.frame = some ⟨kind, y⟩ → c.latched.nat 5 ≤ y) : c.timedRow kind = none := by
  unfold CameraInput.timedRow
  split
  next k next hframe =>
    refine if_neg ?_
    rintro ⟨rfl, hheight⟩
    exact Nat.not_le.mpr hheight (hnot next hframe)
  next => rfl

/-! The row commands -/

theorem exec_cameraRow (h : s.held = none) (pixels : List Rgb) {due : Option Nat} (hdue : s.camera.rowDue = due) :
    exec (.cameraRow pixels) s = .next (due.elim s fun y =>
      s.completeRow .camera y (cameraColumns s.camera.latched s.cameraFill pixels)) := by
  rw [exec, execCameraRow, whenLive_live h, hdue]
  cases due <;> rfl

theorem padRow_nil (width : Nat) (fill : Rgb) : padRow width fill [] = List.replicate width fill := by
  rw [padRow, List.take_nil, List.nil_append, List.length_nil, Nat.sub_zero]

theorem exec_fillRow (h : s.held = none) {due : Option Nat} (hdue : s.camera.timedRow .fill = due) :
    exec .fillRow s = .next (due.elim s fun y =>
      s.completeRow .fill y (List.replicate (activeWidth s.camera.latched) s.cameraFill)) := by
  rw [exec, execFillRow, whenLive_live h, hdue, padRow_nil]
  cases due <;> rfl

theorem exec_generatedRow (h : s.held = none) {due : Option Nat} (hdue : s.camera.timedRow .generated = due) :
    exec .generatedRow s = .next (due.elim s fun y => s.completeRow .generated y (s.messageRow y)) := by
  rw [exec, execGeneratedRow, whenLive_live h, hdue]
  cases due <;> rfl

/-- Settles O47: the row that is due is made of its line or of the fill colour, and then buffered or counted as dropped. -/
theorem cameraRowsComplete : Obligations.CameraRowsComplete := by
  intro s hs c width height fill completed
  have hcompleted : ∀ kind y pixels, s.completeRow kind y pixels = completed kind y pixels := fun _ _ _ => rfl
  refine ⟨fun pixels y next hframe hline hheight hnext => ?_, fun y hframe hheight => ?_, fun y hframe hheight => ?_,
    fun pixels hnone => exec_cameraRow hs pixels hnone,
    fun hnot => exec_fillRow hs (CameraInput.timedRow_notDue hnot),
    fun hnot => exec_generatedRow hs (CameraInput.timedRow_notDue hnot)⟩
  · refine ⟨cameraColumns c.latched fill pixels, ?_, cameraColumns_length _ _ _,
      fun x hx => cameraColumns_getD _ _ _ _ hx⟩
    rw [← hcompleted]
    exact exec_cameraRow hs pixels (CameraInput.rowDue_eq hframe hline hheight hnext)
  · rw [← hcompleted]
    exact exec_fillRow hs (CameraInput.timedRow_due hframe hheight)
  · rw [← hcompleted]
    exact exec_generatedRow hs (CameraInput.timedRow_due hframe hheight)

/-! Drawing (R116 to R118, R120) -/

theorem GuideRecord.drawRow_eq (r : GuideRecord) (row : CameraRow) :
    r.drawRow row = { row with pixels := (r.drawRow row).pixels } := by
  unfold GuideRecord.drawRow
  split <;> rfl

theorem GuideRecord.getElem?_drawPixels (r : GuideRecord) (u i : Nat) (ps : List Rgb) (x : Nat) :
    (r.drawPixels u x ps)[i]? = ps[i]?.map (r.drawPixel u (x + i)) := by
  induction ps generalizing x i with
  | nil => rfl
  | cons p ps ih =>
    cases i with
    | zero => rfl
    | succ i => simpa [GuideRecord.drawPixels, Nat.add_assoc, Nat.add_comm 1 i] using ih i (x + 1)

theorem GuideRecord.drawPixels_length (r : GuideRecord) (u : Nat) (ps : List Rgb) (x : Nat) :
    (r.drawPixels u x ps).length = ps.length := by
  induction ps generalizing x with
  | nil => rfl
  | cons p ps ih => exact congrArg Nat.succ (ih (x + 1))

theorem GuideRecord.drawRow_length (r : GuideRecord) (row : CameraRow) :
    (r.drawRow row).pixels.length = row.pixels.length := by
  unfold GuideRecord.drawRow
  split
  · exact r.drawPixels_length _ _ _
  · rfl

theorem GuideRecord.drawRow_outside {r : GuideRecord} {row : CameraRow}
    (h : row.kind ≠ .camera ∨ r.valid = false ∨ row.number < r.fields.nat 35 ∨ r.fields.nat 36 < row.number) :
    r.drawRow row = row := by
  refine if_neg ?_
  rintro ⟨hkind, hvalid, htop, hbottom⟩
  rcases h with h | h | h | h
  · exact h hkind
  · exact ne_true_of_eq_false h hvalid
  · exact Nat.not_le.mpr h htop
  · exact Nat.not_le.mpr h hbottom

/-- In the band of a valid record every pixel of a camera row is built up from itself, column by column (R118). -/
theorem GuideRecord.drawRow_inside {r : GuideRecord} {row : CameraRow} (hkind : row.kind = .camera)
    (hvalid : r.valid = true) (htop : r.fields.nat 35 ≤ row.number) (hbottom : row.number ≤ r.fields.nat 36) {x : Nat}
    {p : Rgb} (hp : row.pixels[x]? = some p) :
    (r.drawRow row).pixels[x]? = some (r.drawPixel (r.fields.nat 36 - row.number) x p) := by
  have hrow : r.drawRow row = { row with pixels := r.drawPixels (r.fields.nat 36 - row.number) 0 row.pixels } :=
    if_pos ⟨hkind, hvalid, htop, hbottom⟩
  rw [hrow, GuideRecord.getElem?_drawPixels, hp, Nat.zero_add, Option.map_some]

/-! The record a row is drawn by (R111) -/

theorem GuideOverlay.draw_unrecorded {g : GuideOverlay} {row : CameraRow} (h : ∀ r ∈ g.records, r.frame ≠ row.frame) :
    g.draw row = row := by
  have hnone : g.records.find? (fun r => decide (r.frame = row.frame)) = none :=
    List.find?_eq_none.mpr fun r hr => by simpa using h r hr
  rw [GuideOverlay.draw, hnone]

/-- The only record of the row's frame draws it. -/
theorem GuideOverlay.draw_recorded {g : GuideOverlay} {row : CameraRow} {r : GuideRecord} (hr : r ∈ g.records)
    (hframe : r.frame = row.frame) (honly : ∀ x ∈ g.records, x.frame = row.frame → x = r) : g.draw row = r.drawRow row := by
  unfold GuideOverlay.draw
  split
  next x hx =>
    have hsame : x.frame = row.frame := by simpa using List.find?_some hx
    rw [honly x (List.mem_of_find?_eq_some hx) hsame]
  next hnone =>
    exact absurd hframe (by simpa using List.find?_eq_none.mp hnone r hr)

/-- Drawing changes pixels alone. -/
theorem GuideOverlay.draw_eq (g : GuideOverlay) (row : CameraRow) :
    g.draw row = { row with pixels := (g.draw row).pixels } := by
  unfold GuideOverlay.draw
  split
  · exact GuideRecord.drawRow_eq _ row
  · rfl

/-! The row goes upstream (R98, R103, R104) -/

theorem exec_rowDrawn_empty (h : s.held = none) (hbuffer : s.camera.buffer = []) : exec .rowDrawn s = .next s := by
  rw [exec, execRowDrawn, whenLive_live h, hbuffer]

theorem exec_rowDrawn_next (h : s.held = none) {row : CameraRow} {rest : List CameraRow}
    (hbuffer : s.camera.buffer = row :: rest) : exec .rowDrawn s =
      .next (State.sendRow { s with camera := { s.camera with buffer := rest } } (s.guide.draw row)) := by
  rw [exec, execRowDrawn, whenLive_live h, hbuffer]

theorem State.sendRow_flagged {f : FlaggedFrame} {row : CameraRow} (hf : s.rear.camFlag = some f)
    (hframe : f.frame = row.frame) :
    s.sendRow row = s.offerPicture (.line .camera f.tag row.number row.pixels) := by
  rw [State.sendRow, hf]
  exact if_pos hframe

theorem State.sendRow_unflagged {row : CameraRow} (h : ∀ f, s.rear.camFlag = some f → f.frame ≠ row.frame) :
    s.sendRow row = s := by
  unfold State.sendRow
  split
  next f hf => exact if_neg (h f hf)
  next => rfl

theorem State.offerPicture_room (hup : s.link.up = true) (hroom : s.rear.queue.length < 4) (p : UpPicture) :
    s.offerPicture p = { s with rear := { s.rear with queue := s.rear.queue ++ [p] } } := by
  rw [State.offerPicture, hup]
  exact if_pos hroom

theorem State.offerPicture_full (hup : s.link.up = true) (hfull : 4 ≤ s.rear.queue.length) (p : UpPicture) :
    s.offerPicture p = s.bump 15 1 := by
  rw [State.offerPicture, hup]
  exact if_neg (Nat.not_lt.mpr hfull)

theorem State.offerPicture_down (hdown : s.link.up = false) (p : UpPicture) : s.offerPicture p = s.bump 2 1 := by
  rw [State.offerPicture, hdown]
  rfl

/-- A row of the flagged frame is offered under that frame's tag. -/
theorem exec_rowDrawn_flagged (h : s.held = none) {row : CameraRow} {rest : List CameraRow}
    (hbuffer : s.camera.buffer = row :: rest) {f : FlaggedFrame} (hf : s.rear.camFlag = some f)
    (hframe : f.frame = row.frame) : exec .rowDrawn s =
      .next (State.offerPicture { s with camera := { s.camera with buffer := rest } }
        (.line .camera f.tag row.number (s.guide.draw row).pixels)) := by
  rw [exec_rowDrawn_next h hbuffer, GuideOverlay.draw_eq]
  exact congrArg Host.Outcome.next
    (State.sendRow_flagged (s := { s with camera := { s.camera with buffer := rest } }) hf hframe)

theorem exec_rowDrawn_unflagged (h : s.held = none) {row : CameraRow} {rest : List CameraRow}
    (hbuffer : s.camera.buffer = row :: rest) (hother : ∀ f, s.rear.camFlag = some f → f.frame ≠ row.frame) :
    exec .rowDrawn s = .next { s with camera := { s.camera with buffer := rest } } := by
  rw [exec_rowDrawn_next h hbuffer, GuideOverlay.draw_eq]
  exact congrArg Host.Outcome.next
    (State.sendRow_unflagged (s := { s with camera := { s.camera with buffer := rest } }) hother)

/-- Settles O48: the oldest row, drawn by its record, is offered under the flagged frame's tag. -/
theorem rowDrawnGoesUpstream : Obligations.RowDrawnGoesUpstream := by
  refine ⟨fun s hs => ⟨exec_rowDrawn_empty hs, fun row rest hbuffer => ⟨fun f => exec_rowDrawn_flagged hs hbuffer,
      exec_rowDrawn_unflagged hs hbuffer, fun f r hf hframe hr hrframe honly => ?_⟩⟩,
    fun g row r => GuideOverlay.draw_recorded, fun g row => GuideOverlay.draw_unrecorded,
    fun r row => ⟨r.drawRow_eq row, r.drawRow_length row, GuideRecord.drawRow_outside,
      fun hkind hvalid htop hbottom x p => GuideRecord.drawRow_inside hkind hvalid htop hbottom⟩,
    fun s p => ⟨fun hup hroom => State.offerPicture_room hup hroom p, fun hup hfull => State.offerPicture_full hup hfull p,
      fun hdown => State.offerPicture_down hdown p⟩⟩
  rw [exec_rowDrawn_flagged hs hbuffer hf hframe, GuideOverlay.draw_recorded hr hrframe honly]

end Rows

end Sys2Proof.Machine
end

section
/-! The camera output frame start: what every block makes of it (O46). -/

namespace Sys2Proof.Machine

open Sys2Proof

section FrameStart

variable {s : State}

/-! The pending swap (R37, R102) -/

/-- The Rear View Output once a pending swap has set the camera bank loaded flag. -/
def State.loadedRear (s : State) : RearView :=
  { s.rear with bankLoaded := s.rear.bankLoaded || s.tables.camera.swaps }

/-- The actual view a frame start leaves: only a swap lets it follow its inputs. -/
def State.startView (s : State) : View := if s.tables.camera.swaps then s.loadedRear.viewOf else s.rear.actual

/-- The upstream picture queue before the frame's mark: a change of view has emptied it. -/
def State.startQueue (s : State) : List UpPicture := if s.startView = s.rear.actual then s.rear.queue else []

/-- The state after a swap, before the view follows the loaded bank. -/
def State.swapped (s : State) : State :=
  { (s.setGroup .camera s.tables.camera.frameStart).offerNotice .group 0 2 with rear := s.loadedRear }

theorem State.startView_idle (h : s.tables.camera.swaps = false) : s.startView = s.rear.actual :=
  if_neg (ne_true_of_eq_false h)

theorem State.startView_swap (h : s.tables.camera.swaps = true) : s.startView = s.swapped.rear.viewOf := if_pos h

theorem State.swapCameraBank_idle (h : s.tables.camera.swaps = false) :
    s.swapCameraBank = s.setGroup .camera s.tables.camera.frameStart :=
  if_neg (ne_true_of_eq_false h)

theorem State.swapCameraBank_swap (h : s.tables.camera.swaps = true) : s.swapCameraBank = s.swapped.refreshView := by
  rw [State.swapped, State.loadedRear, h, Bool.or_true]
  exact if_pos h

theorem State.swapCameraBank_kept (h : s.tables.camera.swaps = true) (hview : s.startView = s.rear.actual) :
    s.swapCameraBank = s.swapped := by
  rw [State.swapCameraBank_swap h]
  exact State.refreshView_same ((State.startView_swap h).symm.trans hview)

theorem State.swapCameraBank_moved (h : s.tables.camera.swaps = true) (hview : s.startView ≠ s.rear.actual) :
    s.swapCameraBank = s.swapped.followView.offerNotice .reverse 0
      (Word.ofBytes s.rear.reverse.code s.startView.code) := by
  rw [State.swapCameraBank_swap h, State.startView_swap h]
  exact State.refreshView_changed fun hsame => hview ((State.startView_swap h).trans hsame)

/-- A swap reaches the CAMERA banks, the view with what its change clears, and the notices. -/
theorem State.swapCameraBank_frame (s : State) : ∃ flag notices, s.swapCameraBank = { s with
    tables := { s.tables with camera := s.tables.camera.frameStart }
    rear := { s.loadedRear with actual := s.startView, queue := s.startQueue, camFlag := flag }
    mirror := if s.startView = s.rear.actual then s.mirror else { s.mirror with frame := none }
    notices := notices } := by
  by_cases hview : s.startView = s.rear.actual
  · rw [State.startQueue, if_pos hview, if_pos hview, hview]
    cases h : s.tables.camera.swaps with
    | false =>
      rw [State.swapCameraBank_idle h, State.loadedRear, h, Bool.or_false]
      exact ⟨_, _, rfl⟩
    | true =>
      rw [State.swapCameraBank_kept h hview]
      exact ⟨_, _, rfl⟩
  · have h : s.tables.camera.swaps = true := by
      rw [← Bool.not_eq_false]
      exact mt State.startView_idle hview
    have hchanged : s.swapped.rear.viewOf ≠ s.swapped.rear.actual :=
      fun hsame => hview ((State.startView_swap h).trans hsame)
    rw [State.swapCameraBank_moved h hview, State.followView_changed hchanged, State.startQueue, if_neg hview,
      if_neg hview, State.startView_swap h]
    exact ⟨_, _, rfl⟩

/-! The frame itself (R87, R91, R105, R111, R119) -/

/-- The hold state of the frame that begins. -/
def State.startHold (s : State) : HoldState := s.guide.hold.resolve s.holdCause

/-- Whether the hold freezes the frame's descriptor and guide fields: a swap at the same start reaches them. -/
def State.frozen (s : State) : Bool := decide (s.startHold = .held) && !s.tables.camera.swaps

/-- The descriptor latched for the frame that begins. -/
def State.startLatched (s : State) : Table := (s.camera.latch s.frozen s.tables.camera.frameStart.active).latched

/-- The guide record of the frame that begins. -/
def State.startRecord (s : State) : GuideRecord :=
  guideRecord (s.camera.frameNo + 1) (s.guide.fieldsFor s.frozen s.tables.camera.frameStart.active) s.startLatched
    (decide (s.camera.state = .locked)) (decide (s.startHold = .held)) s.steer.capture

/-- The state in which the Rear View Output decides on the frame's mark. -/
def State.begun (s : State) : State := s.swapCameraBank.beginCameraFrame s.tables.camera.swaps

theorem CameraInput.latch_eq (c : CameraInput) (frozen : Bool) (active : Table) :
    c.latch frozen active = { c with latched := (c.latch frozen active).latched } := by
  unfold CameraInput.latch
  split <;> rfl

theorem State.begun_frame (s : State) : ∃ flag notices, s.begun = { s with
    tables := { s.tables with camera := s.tables.camera.frameStart }
    rear := { s.loadedRear with actual := s.startView, queue := s.startQueue, camFlag := flag }
    mirror := if s.startView = s.rear.actual then s.mirror else { s.mirror with frame := none }
    notices := notices
    steer := s.steer.capture
    guide := { s.guide with
      hold := s.startHold, records := keptRecords s.guide.records s.camera.buffer ++ [s.startRecord] }
    camera := { s.camera with
      latched := s.startLatched
      frameNo := s.camera.frameNo + 1
      frame := some ⟨if s.camera.state = .locked then .camera else .generated, 0⟩ } } := by
  obtain ⟨flag, notices, hswap⟩ := s.swapCameraBank_frame
  refine ⟨flag, notices, ?_⟩
  rw [State.begun, hswap, State.beginCameraFrame, CameraInput.latch_eq]
  simp only [decide_eq_true_eq]
  rfl

@[simp] theorem State.begun_link (s : State) : s.begun.link = s.link := by
  obtain ⟨flag, notices, hbegun⟩ := s.begun_frame
  rw [hbegun]

@[simp] theorem State.begun_stats (s : State) : s.begun.tables.stats = s.tables.stats := by
  obtain ⟨flag, notices, hbegun⟩ := s.begun_frame
  rw [hbegun]

theorem State.begun_rear (s : State) : ∃ flag, s.begun.rear =
    { s.loadedRear with actual := s.startView, queue := s.startQueue, camFlag := flag } := by
  obtain ⟨flag, notices, hbegun⟩ := s.begun_frame
  exact ⟨flag, by rw [hbegun]⟩

/-! The frame's upstream mark (R103) -/

/-- The frame that begins, flagged for the upstream side with a new tag. -/
def State.flagged (s : State) : State := { s.begun with
  rear := { s.begun.rear with camFlag := some ⟨s.camera.frameNo + 1, s.rear.camTag⟩, camTag := s.rear.camTag + 1 } }

/-- The mark of the frame that begins. -/
def State.startMark (s : State) : UpPicture :=
  .mark .camera s.rear.camTag (s.startLatched.nat 4) (s.startLatched.nat 5)

theorem State.cameraFrameStart_unmarked (h : s.startView ≠ .camera) :
    s.cameraFrameStart = { s.begun with rear := { s.begun.rear with camFlag := none } } := by
  obtain ⟨flag, hrear⟩ := s.begun_rear
  refine if_neg ?_
  rw [← State.begun, hrear]
  exact h

theorem State.cameraFrameStart_marked (h : s.startView = .camera) :
    s.cameraFrameStart = s.flagged.offerPicture s.startMark := by
  obtain ⟨flag, notices, hbegun⟩ := s.begun_frame
  have hcamera : s.begun.rear.actual = .camera := by rw [hbegun]; exact h
  refine (if_pos hcamera).trans ?_
  rw [State.flagged, State.startMark, ← State.begun, hbegun]
  rfl

/-- What the mark leaves open: the flag with its tag, the queue, and the counters of pictures that did not join it. -/
theorem State.cameraMark_frame (s : State) : ∃ flag tag queue stats, s.cameraMark = { s with
    rear := { s.rear with camFlag := flag, camTag := tag, queue := queue }
    tables := { s.tables with stats := stats } } := by
  unfold State.cameraMark
  split
  · rcases State.offerPicture_cases { s with rear := { s.rear with
      camFlag := some ⟨s.camera.frameNo, s.rear.camTag⟩, camTag := s.rear.camTag + 1 } }
      (.mark .camera s.rear.camTag (activeWidth s.camera.latched) (activeHeight s.camera.latched))
      with ⟨-, h⟩ | ⟨-, -, h⟩ | ⟨-, -, h⟩ <;> rw [h] <;> exact ⟨_, _, _, _, rfl⟩
  · exact ⟨_, _, _, _, rfl⟩

/-- A frame start leaves the link, the displays, the menus, the sound and the requests alone. -/
theorem State.cameraFrameStart_parts (s : State) : ∃ flag tag queue stats notices, s.cameraFrameStart = { s with
    tables := { s.tables with camera := s.tables.camera.frameStart, stats := stats }
    steer := s.steer.capture
    guide := { s.guide with
      hold := s.startHold, records := keptRecords s.guide.records s.camera.buffer ++ [s.startRecord] }
    camera := { s.camera with
      latched := s.startLatched
      frameNo := s.camera.frameNo + 1
      frame := some ⟨if s.camera.state = .locked then .camera else .generated, 0⟩ }
    rear := { s.loadedRear with actual := s.startView, camFlag := flag, camTag := tag, queue := queue }
    mirror := if s.startView = s.rear.actual then s.mirror else { s.mirror with frame := none }
    notices := notices } := by
  obtain ⟨_, notices, hbegun⟩ := s.begun_frame
  obtain ⟨flag, tag, queue, stats, hmark⟩ := s.begun.cameraMark_frame
  refine ⟨flag, tag, queue, stats, notices, ?_⟩
  rw [State.cameraFrameStart, ← State.begun, hmark, hbegun]

theorem State.cameraFrameStart_guide (s : State) : s.cameraFrameStart.guide = { s.guide with
    hold := s.startHold, records := keptRecords s.guide.records s.camera.buffer ++ [s.startRecord] } := by
  obtain ⟨_, _, _, _, _, h⟩ := s.cameraFrameStart_parts
  rw [h]

theorem State.cameraFrameStart_latched (s : State) : s.cameraFrameStart.camera.latched = s.startLatched := by
  obtain ⟨_, _, _, _, _, h⟩ := s.cameraFrameStart_parts
  rw [h]

/-- Notices come from the swap alone. -/
theorem State.cameraFrameStart_notices (s : State) : s.cameraFrameStart.notices = s.swapCameraBank.notices := by
  obtain ⟨_, _, _, _, h⟩ := s.begun.cameraMark_frame
  rw [State.cameraFrameStart, ← State.begun, h]
  rfl

theorem State.swapCameraBank_notices_moved (h : s.tables.camera.swaps = true) (hview : s.startView ≠ s.rear.actual) :
    s.swapCameraBank.notices = ((s.offerNotice .group 0 2).offerNotice .reverse 0
      (Word.ofBytes s.rear.reverse.code s.startView.code)).notices := by
  rw [State.swapCameraBank_moved h hview, State.offerNotice, State.followView_tables, State.followView_notices]
  rfl

theorem State.offerPicture_rear (s : State) (p : UpPicture) :
    (s.offerPicture p).rear = { s.rear with queue := (s.offerPicture p).rear.queue } := by
  rcases s.offerPicture_cases p with ⟨-, h⟩ | ⟨-, -, h⟩ | ⟨-, -, h⟩ <;> rw [h] <;> rfl

@[simp] theorem State.flagged_link (s : State) : s.flagged.link = s.link := s.begun_link

@[simp] theorem State.flagged_queue (s : State) : s.flagged.rear.queue = s.startQueue := by
  obtain ⟨flag, hrear⟩ := s.begun_rear
  rw [State.flagged, hrear]

@[simp] theorem State.flagged_stats (s : State) : s.flagged.tables.stats = s.tables.stats := s.begun_stats

/-- Where the frame's mark goes, or how its loss is counted (R12, R104). -/
theorem State.cameraFrameStart_mark (h : s.startView = .camera) :
    s.cameraFrameStart.rear.camFlag = some ⟨s.camera.frameNo + 1, s.rear.camTag⟩ ∧
    s.cameraFrameStart.rear.camTag = s.rear.camTag + 1 ∧
    (s.link.up = true → s.startQueue.length < 4 → s.cameraFrameStart.rear.queue = s.startQueue ++ [s.startMark] ∧
      s.cameraFrameStart.tables.stats = s.tables.stats) ∧
    (s.link.up = true → 4 ≤ s.startQueue.length → s.cameraFrameStart.rear.queue = s.startQueue ∧
      s.cameraFrameStart.tables.stats = (s.bump 15 1).tables.stats) ∧
    (s.link.up = false → s.cameraFrameStart.rear.queue = s.startQueue ∧
      s.cameraFrameStart.tables.stats = (s.bump 2 1).tables.stats) := by
  have hlink := s.flagged_link
  have hqueue := s.flagged_queue
  rw [State.cameraFrameStart_marked h]
  refine ⟨?_, ?_, fun hup hroom => ?_, fun hup hfull => ?_, fun hdown => ?_⟩
  · rw [State.offerPicture_rear]; rfl
  · rw [State.offerPicture_rear]; rfl
  · rw [State.offerPicture_room (by rwa [hlink]) (by rwa [hqueue])]
    simp
  · rw [State.offerPicture_full (by rwa [hlink]) (by rwa [hqueue])]
    simp
  · rw [State.offerPicture_down (by rwa [hlink])]
    simp

theorem State.cameraFrameStart_noMark (h : s.startView ≠ .camera) :
    s.cameraFrameStart.rear.camFlag = none ∧ s.cameraFrameStart.rear.camTag = s.rear.camTag ∧
    s.cameraFrameStart.rear.queue = s.startQueue ∧ s.cameraFrameStart.tables.stats = s.tables.stats := by
  obtain ⟨flag, hrear⟩ := s.begun_rear
  rw [State.cameraFrameStart_unmarked h, hrear]
  exact ⟨rfl, rfl, rfl, s.begun_stats⟩

/-! The latched descriptor and the guide record (R91, R110, R111, R119) -/

theorem State.startLatched_kept
    (h : s.frozen = true ∨ descriptorFailure s.tables.camera.frameStart.active ≠ none) :
    s.startLatched = s.camera.latched := by
  have hkeep : s.camera.latch s.frozen s.tables.camera.frameStart.active = s.camera := by
    refine if_pos ?_
    rwa [Bool.or_eq_true, Option.isSome_iff_ne_none]
  rw [State.startLatched, hkeep]

theorem State.startLatched_read (h : s.frozen = false)
    (hgood : descriptorFailure s.tables.camera.frameStart.active = none) {i : Nat} (hi : i ≤ 28) :
    s.startLatched.read i = s.tables.camera.frameStart.active.read i := by
  rw [State.startLatched, CameraInput.latch, h, hgood]
  exact Table.read_slice _ (Nat.zero_le i) (Nat.lt_succ_of_le hi)

theorem State.startRecord_read (h : s.frozen = false) {i : Nat} (hlow : 32 ≤ i) (hhigh : i ≤ 401) :
    s.startRecord.fields.read i = s.tables.camera.frameStart.active.read i := by
  rw [State.startRecord, h]
  exact Table.read_slice _ hlow (Nat.lt_succ_of_le hhigh)

theorem State.startRecord_frozen (h : s.frozen = true) {old : GuideRecord}
    (hlast : s.guide.records.getLast? = some old) : s.startRecord.fields = old.fields := by
  rw [State.startRecord, guideRecord, GuideOverlay.fieldsFor, h, hlast]; rfl

theorem HoldState.resolve_eq (h : HoldState) (cause : Bool) : h.resolve cause =
    if h = .holdRequested ∨ h = .releaseRequested then (if cause then .held else .free) else h := by
  cases h <;> rfl

theorem State.startRecord_valid_iff (s : State) : s.startRecord.valid = true ↔
    guideFailure s.startRecord.fields s.startRecord.height = none := Option.isNone_iff_eq_none

/-- A kind of line is drawn in LOCKED, not HELD, by a valid record that enables it; trajectory lines need a reference. -/
theorem State.startRecord_draws_iff (s : State) :
    let draws := s.camera.state = .locked ∧ s.startHold ≠ .held ∧ s.startRecord.valid = true
    (s.startRecord.drawFixed = true ↔ draws ∧ s.startRecord.fields.nat 32 = 1) ∧
    (s.startRecord.drawTraj = true ↔ draws ∧ s.startRecord.fields.nat 33 = 1 ∧
      s.steer.capture.capState = .referenced) ∧
    (s.startRecord.drawBars = true ↔ draws ∧ s.startRecord.fields.nat 34 = 1) := by
  simp [State.startRecord, guideRecord, and_assoc]

theorem State.startRecord_shapes (h : s.startRecord.valid = true) :
    s.startRecord.left = trajShape s.startRecord.fields s.steer.count 0 ∧
    s.startRecord.right = trajShape s.startRecord.fields s.steer.count 9 :=
  ⟨if_pos h, if_pos h⟩

/-! The free-run timer (R95) -/

theorem exec_freeRunExpiry_stopped (h : s.held = none) (hstopped : s.camera.freeRun = none) :
    exec .freeRunExpiry s = .next s := by
  rw [exec, execFreeRunExpiry, whenLive_live h, hstopped]; rfl

theorem exec_freeRunExpiry_running (h : s.held = none) (hrun : s.camera.freeRun ≠ none) :
    exec .freeRunExpiry s = .next { s.cameraFrameStart with
      camera := { s.cameraFrameStart.camera with freeRun := some (s.cameraFrameStart.camera.latched.nat 7) } } := by
  rw [exec, execFreeRunExpiry, whenLive_live h, if_neg (by simpa using hrun)]; rfl

/-- Settles O46: the swap first, then the frame in the view it left, then the frame's mark. -/
theorem cameraFrameStartActs : Obligations.CameraFrameStartActs := by
  refine ⟨fun s hs => ⟨exec_freeRunExpiry_stopped hs, exec_freeRunExpiry_running hs⟩, ?_⟩
  intro s t g swap g' loaded view cause hold frozen locked queue no mark
  have hhold : hold = s.startHold := (HoldState.resolve_eq _ _).symm
  have hfrozen : s.frozen = true ↔ frozen := by
    rw [State.frozen, ← hhold, Bool.and_eq_true, decide_eq_true_eq, Bool.not_eq_true']
    exact Iff.rfl
  have hthawed : ¬ frozen → s.frozen = false := fun h => Bool.eq_false_iff.mpr (mt hfrozen.mp h)
  have hlatched : t.camera.latched = s.startLatched := s.cameraFrameStart_latched
  have hguide : t.guide.records = keptRecords s.guide.records s.camera.buffer ++ [s.startRecord] :=
    congrArg GuideOverlay.records s.cameraFrameStart_guide
  have hnotices : t.notices = s.swapCameraBank.notices := s.cameraFrameStart_notices
  refine ⟨?_, fun h => ?_, fun hno hgood i hi => ?_, ⟨s.startRecord, ?_, hguide, rfl, ?_, ?_, s.startRecord_valid_iff,
      fun hno i => State.startRecord_read (hthawed hno), fun old h => State.startRecord_frozen (hfrozen.mpr h), ?_,
      State.startRecord_shapes⟩,
    fun h => ?_, fun h hsame => ?_, fun h hother => ?_, State.cameraFrameStart_noMark, fun h => ?_⟩
  · rw [hhold]
    obtain ⟨flag, tag, queue, stats, notices, hparts⟩ := s.cameraFrameStart_parts
    rw [show t = _ from hparts]
    rfl
  · rw [hlatched, State.startLatched_kept (h.imp_left hfrozen.mpr)]
  · rw [hlatched]
    exact State.startLatched_read (hthawed hno) hgood hi
  · rw [hguide, List.getLast?_concat]
  · rw [hlatched]; rfl
  · rw [hlatched]; rfl
  · rw [hhold]
    exact s.startRecord_draws_iff
  · rw [hnotices, State.swapCameraBank_idle h]; rfl
  · rw [hnotices, State.swapCameraBank_kept h hsame]; rfl
  · exact hnotices.trans (State.swapCameraBank_notices_moved h hother)
  · have hmark : mark = s.startMark := by rw [State.startMark, ← hlatched]
    rw [hmark]
    exact State.cameraFrameStart_mark h

end FrameStart

end Sys2Proof.Machine
end

section
/-! The frame shape: the key and the weight of a captured count, and the positions between two keys (O49). -/

namespace Sys2Proof.Machine

open Sys2Proof

/-! Interpolation, by the weight between two keys (R113) and by the place between two control rows (R114) -/

/-- p parts of n of a step, rounded by r and then down, never pass 0 or the whole step. -/
theorem partialStep_between (d : Int) {p r n : Int} (hp : 0 ≤ p) (hpn : p ≤ n) (hr : 0 ≤ r) (hrn : r < n) :
    min 0 d ≤ (d * p + r) / n ∧ (d * p + r) / n ≤ max 0 d := by
  have hn : 0 < n := hr.trans_lt hrn
  rcases le_total 0 d with hd | hd
  · have hlow : 0 ≤ d * p := mul_nonneg hd hp
    have hhigh : d * p ≤ d * n := mul_le_mul_of_nonneg_left hpn hd
    rw [min_eq_left hd, max_eq_right hd]
    exact ⟨Int.ediv_nonneg (by omega) hn.le, Int.le_of_lt_add_one (Int.ediv_lt_of_lt_mul hn (by linarith))⟩
  · have hlow : d * n ≤ d * p := mul_le_mul_of_nonpos_left hpn hd
    have hhigh : d * p ≤ 0 := mul_nonpos_of_nonpos_of_nonneg hd hp
    rw [min_eq_right hd, max_eq_left hd]
    exact ⟨(Int.le_ediv_iff_mul_le hn).mpr (by omega), Int.le_of_lt_add_one (Int.ediv_lt_of_lt_mul hn (by linarith))⟩

theorem interpolated_between (x y : Int) {p r n : Int} (hp : 0 ≤ p) (hpn : p ≤ n) (hr : 0 ≤ r) (hrn : r < n) :
    min x y ≤ x + ((y - x) * p + r) / n ∧ x + ((y - x) * p + r) / n ≤ max x y := by
  have hstep := partialStep_between (y - x) hp hpn hr hrn
  omega

/-! Stage 1: the key and the weight (R112) -/

section Keys

variable {t : Table} {c : Int} {i j : Nat}

/-- The search finds the key i when the count has reached the keys up to i, and not the one after it. -/
theorem keyBelow_eq {n : Nat} (hji : j ≤ i) (hin : i ≤ j + n) (hreached : ∀ m, j < m → m ≤ i → steerKey t m ≤ c)
    (hnext : c < steerKey t (i + 1)) : keyBelow t c j n = i := by
  induction n generalizing j with
  | zero => exact hji.antisymm hin
  | succ n ih =>
    rw [keyBelow]
    split
    next hbelow =>
      by_contra hne
      exact hbelow.not_ge (hreached (j + 1) j.lt_succ_self (by omega))
    next hat =>
      have hne : j ≠ i := fun h => hat (h ▸ hnext)
      exact ih (by omega) (by omega) fun m hm => hreached m (by omega)

theorem keyAndWeight_atFirst (h : c ≤ steerKey t 0) : keyAndWeight t c = (0, none) := if_pos h

theorem keyAndWeight_atLast (hfirst : steerKey t 0 < c) (hlast : steerKey t (keyCount t - 1) ≤ c) :
    keyAndWeight t c = (keyCount t - 1, none) := by
  rw [keyAndWeight, if_neg hfirst.not_ge, if_pos hlast]

theorem keyAndWeight_inside (hfirst : steerKey t 0 < c) (hlast : c < steerKey t (keyCount t - 1))
    (hkey : keyBelow t c 0 (keyCount t - 2) = j) : keyAndWeight t c =
      (j, some (256 * (c - steerKey t j) / (steerKey t (j + 1) - steerKey t j))) := by
  rw [keyAndWeight, if_neg hfirst.not_ge, if_neg hlast.not_ge, hkey]

theorem keyWeight_range {a b : Int} (hlow : a ≤ c) (hhigh : c < b) :
    0 ≤ 256 * (c - a) / (b - a) ∧ 256 * (c - a) / (b - a) ≤ 255 := by
  have hgap : 0 < b - a := by omega
  exact ⟨Int.ediv_nonneg (by omega) hgap.le, Int.le_of_lt_add_one (Int.ediv_lt_of_lt_mul hgap (by omega))⟩

variable (hrise : ∀ i j, i < j → j < keyCount t → steerKey t i < steerKey t j)
include hrise

theorem steerKey_mono (hij : i ≤ j) (hj : j < keyCount t) : steerKey t i ≤ steerKey t j := by
  rcases hij.eq_or_lt with rfl | hlt
  · exact le_rfl
  · exact (hrise i j hlt hj).le

/-- Rising keys have one place for a count between the end keys. -/
theorem keyAndWeight_between (hj : j + 1 < keyCount t) (hfirst : steerKey t 0 < c) (hlow : steerKey t j ≤ c)
    (hhigh : c < steerKey t (j + 1)) : keyAndWeight t c =
      (j, some (256 * (c - steerKey t j) / (steerKey t (j + 1) - steerKey t j))) := by
  have hlast : c < steerKey t (keyCount t - 1) := hhigh.trans_le (steerKey_mono hrise (by omega) (by omega))
  have hreached (m : Nat) (_ : 0 < m) (hm : m ≤ j) : steerKey t m ≤ c :=
    (steerKey_mono hrise hm (by omega)).trans hlow
  exact keyAndWeight_inside hfirst hlast (keyBelow_eq j.zero_le (by omega) hreached hhigh)

end Keys

/-! Stage 2: the frame shape (R113) -/

section Shapes

variable {t : Table} {c w : Int} {j k : Nat}

@[simp] theorem shapeAt_length (t : Table) (base : Nat) : (shapeAt t base).length = 9 := by
  rw [shapeAt, List.length_map, List.length_range]

theorem shapeAt_getD (base : Nat) (hk : k < 9) : (shapeAt t base).getD k 0 = t.int (base + k) := by
  rw [shapeAt, List.getD_eq_getElem?_getD, List.getElem?_map, List.getElem?_range hk]; rfl

theorem blendShape_eq_zipWith (w : Int) (xs ys : List Int) :
    blendShape w xs ys = List.zipWith (fun x y => blendPosition x y w) xs ys := by
  fun_induction blendShape with
  | case1 x xs y ys ih => rw [ih, List.zipWith_cons_cons]
  | case2 xs ys hnone =>
    cases xs with
    | nil => rfl
    | cons x xs =>
      cases ys with
      | nil => rfl
      | cons y ys => exact (hnone x xs y ys rfl rfl).elim

theorem blendShape_getD {xs ys : List Int} (hx : k < xs.length) (hy : k < ys.length) :
    (blendShape w xs ys).getD k 0 = blendPosition (xs.getD k 0) (ys.getD k 0) w := by
  have hk : k < (List.zipWith (fun x y => blendPosition x y w) xs ys).length := by
    rw [List.length_zipWith]
    exact lt_min hx hy
  rw [blendShape_eq_zipWith, List.getD_eq_getElem _ 0 hx, List.getD_eq_getElem _ 0 hy, List.getD_eq_getElem _ 0 hk,
    List.getElem_zipWith]

theorem trajShape_alone (h : keyAndWeight t c = (j, none)) (side : Nat) :
    trajShape t c side = shapeAt t (96 + 18 * j + side) := by
  rw [trajShape, h]

theorem trajShape_blended (h : keyAndWeight t c = (j, some w)) (side : Nat) : trajShape t c side =
    blendShape w (shapeAt t (96 + 18 * j + side)) (shapeAt t (96 + 18 * (j + 1) + side)) := by
  rw [trajShape, h]

theorem trajShape_length (t : Table) (c : Int) (side : Nat) : (trajShape t c side).length = 9 := by
  rcases h : keyAndWeight t c with ⟨j, _ | w⟩
  · rw [trajShape_alone h, shapeAt_length]
  · rw [trajShape_blended h, blendShape_eq_zipWith, List.length_zipWith, shapeAt_length, shapeAt_length, Nat.min_self]

theorem trajShape_getD_alone (h : keyAndWeight t c = (j, none)) (side : Nat) (hk : k < 9) :
    (trajShape t c side).getD k 0 = t.int (96 + 18 * j + side + k) := by
  rw [trajShape_alone h, shapeAt_getD _ hk]

theorem trajShape_getD_blended (h : keyAndWeight t c = (j, some w)) (side : Nat) (hk : k < 9) :
    (trajShape t c side).getD k 0 =
      blendPosition (t.int (96 + 18 * j + side + k)) (t.int (96 + 18 * (j + 1) + side + k)) w := by
  rw [trajShape_blended h, blendShape_getD (by rwa [shapeAt_length]) (by rwa [shapeAt_length]), shapeAt_getD _ hk,
    shapeAt_getD _ hk]

theorem blendPosition_between (x y : Int) (hlow : 0 ≤ w) (hhigh : w ≤ 255) :
    min x y ≤ blendPosition x y w ∧ blendPosition x y w ≤ max x y :=
  interpolated_between x y hlow (hhigh.trans (by decide)) (by decide) (by decide)

end Shapes

/-- Settles O49: rising keys leave one key below a count between the ends, and a weight below 256 keeps every position between
its two keys'. -/
theorem guideShapeFollowsCount : Obligations.GuideShapeFollowsCount := by
  refine ⟨fun t c hcount hrise => ⟨keyAndWeight_atFirst, fun hlast => ?_, fun j hj hfirst hlow hhigh => ?_⟩,
    fun t c side k _ hk => ⟨fun j h => trajShape_getD_alone h side hk, fun j w h hlow hhigh => ?_⟩,
    fun t c side => ⟨trajShape_length t c side, shapeAt_length t _, fun k hk => shapeAt_getD _ hk⟩⟩
  · have hends : steerKey t 0 < steerKey t (keyCount t - 1) := hrise 0 (t.nat 37 - 1) (by omega) (by omega)
    exact keyAndWeight_atLast (hends.trans_le hlast) hlast
  · have hgap : 0 ≤ t.int (54 + (j + 1)) - t.int (54 + j) := by omega
    rw [Int.fdiv_eq_ediv_of_nonneg _ hgap]
    exact ⟨keyAndWeight_between hrise hj hfirst hlow hhigh, keyWeight_range hlow hhigh⟩
  · intro x y
    rw [Int.fdiv_eq_ediv_of_nonneg _ (by decide), trajShape_getD_blended h side hk]
    exact ⟨rfl, blendPosition_between _ _ hlow hhigh⟩

end Sys2Proof.Machine
end

section
/-! The lines on a band row: position, width, span, colour and the distance bars (O50). -/

namespace Sys2Proof.Machine

open Sys2Proof

/-! The line position (R114) -/

section Position

variable (shape : List Int) {h k v : Nat}

/-- Within a segment, 0 to 7, the position is that segment's interpolation at the place; the top row of the band is the
place h of segment 7. -/
theorem linePosition_inSegment (hsegment : min ((k * h + v) / h) 7 = k) : linePosition shape h (k * h + v) =
    shape.getD k 0 + ((shape.getD (k + 1) 0 - shape.getD k 0) * v + (h / 2 : Nat)) / h := by
  simp only [linePosition, hsegment, Nat.add_sub_cancel_left]

theorem segment_of_place (hk : k < 8) (hv : v < h) : min ((k * h + v) / h) 7 = k := by
  have hdiv : (k * h + v) / h = k := Nat.div_eq_of_lt_le (Nat.le_add_right ..) (by rw [Nat.add_mul]; omega)
  omega

theorem linePosition_place (hk : k < 8) (hv : v < h) : linePosition shape h (k * h + v) =
    shape.getD k 0 + ((shape.getD (k + 1) 0 - shape.getD k 0) * v + (h / 2 : Nat)) / h :=
  linePosition_inSegment shape (segment_of_place hk hv)

theorem linePosition_between (hk : k < 8) (hv : v < h) :
    min (shape.getD k 0) (shape.getD (k + 1) 0) ≤ linePosition shape h (k * h + v) ∧
    linePosition shape h (k * h + v) ≤ max (shape.getD k 0) (shape.getD (k + 1) 0) := by
  rw [linePosition_place shape hk hv]
  exact interpolated_between _ _ (by omega) (by omega) (by omega) (by omega)

theorem halfStep_floor (hh : 1 ≤ h) (d : Int) : (d * h + (h / 2 : Nat)) / h = d := by
  rw [Int.add_comm, Int.add_mul_ediv_right _ _ (by omega), Int.ediv_eq_zero_of_lt (by omega) (by omega), Int.zero_add]

theorem linePosition_controlRow (hh : 1 ≤ h) (hk : k < 8) : linePosition shape h (k * h) = shape.getD k 0 := by
  have hhalf : (0 + (h / 2 : Nat) : Int) / h = 0 := by simpa using halfStep_floor hh 0
  have hplace := linePosition_place shape hk hh
  rwa [Nat.cast_zero, Int.mul_zero, hhalf, Int.add_zero] at hplace

theorem linePosition_topRow (hh : 1 ≤ h) : linePosition shape h (8 * h) = shape.getD 8 0 := by
  have hrow : 8 * h = 7 * h + h := by omega
  have hsegment : min ((7 * h + h) / h) 7 = 7 := by rw [← hrow, Nat.mul_div_cancel _ hh]; rfl
  rw [hrow, linePosition_inSegment shape hsegment, halfStep_floor hh, add_sub_cancel]

end Position

/-! The width (R115) -/

section Width

variable {t : Table} {u v : Nat}

theorem lineWidth_zero (t : Table) : lineWidth t 0 = nearWidth t := by
  rw [lineWidth, Nat.mul_zero, Nat.zero_div, Nat.sub_zero]

theorem lineWidth_top (hband : 0 < bandHeight t) (hwidths : farWidth t ≤ nearWidth t) :
    lineWidth t (bandHeight t) = farWidth t := by
  rw [lineWidth, Nat.mul_div_cancel _ hband, Nat.sub_sub_self hwidths]

theorem lineWidth_antitone (t : Table) (huv : u ≤ v) : lineWidth t v ≤ lineWidth t u :=
  Nat.sub_le_sub_left (Nat.div_le_div_right (Nat.mul_le_mul_left _ huv)) _

end Width

/-! The span (R115) -/

theorem lineSpan_width (t : Table) (shape : List Int) (u : Nat) :
    (lineSpan t shape u).last - (lineSpan t shape u).first + 1 = lineWidth t u := by
  simp only [lineSpan]
  omega

theorem Span.covers_iff {p : Span} {x : Nat} : p.covers x = true ↔ p.first ≤ (x : Int) ∧ (x : Int) ≤ p.last :=
  decide_eq_true_iff

/-! Covers (R116, R117) -/

theorem linesCover_iff {t : Table} {left right : List Int} {u x : Nat} : linesCover t left right u x = true ↔
    ∃ shape, (shape = left ∨ shape = right) ∧ (lineSpan t shape u).covers x = true := by
  rw [linesCover, Bool.or_eq_true]
  constructor
  · rintro (h | h)
    · exact ⟨left, .inl rfl, h⟩
    · exact ⟨right, .inr rfl, h⟩
  · rintro ⟨shape, rfl | rfl, h⟩
    · exact .inl h
    · exact .inr h

section Zones

variable {t : Table} {u : Nat}

theorem zonePaint_zero (h : u ≤ markOffset t 0) : zonePaint t u = paintOf (t.read 46) (t.read 47) := if_pos h

theorem zonePaint_one (h0 : markOffset t 0 < u) (h1 : u ≤ markOffset t 1) :
    zonePaint t u = paintOf (t.read 48) (t.read 49) := by
  rw [zonePaint, if_neg h0.not_ge, if_pos h1]

theorem zonePaint_two (h0 : markOffset t 0 < u) (h1 : markOffset t 1 < u) :
    zonePaint t u = paintOf (t.read 50) (t.read 51) := by
  rw [zonePaint, if_neg h0.not_ge, if_neg h1.not_ge]

end Zones

theorem Word.hi_toNat (w : Word) : w.hi.toNat = w.toNat / 256 := by
  have hw := w.isLt
  rw [Word.hi, BitVec.extractLsb'_toNat, Nat.shiftRight_eq_div_pow]
  omega

theorem Word.lo_toNat (w : Word) : w.lo.toNat = w.toNat % 256 := by
  rw [Word.lo, BitVec.extractLsb'_toNat, Nat.shiftRight_zero]

theorem onBar_iff {t : Table} {u : Nat} : onBar t u = true ↔
    ∃ i, i < 3 ∧ markOffset t i ≤ u ∧ u < markOffset t i + barThickness t := by
  have hbars : ([0, 1, 2] : List Nat) = List.range 3 := rfl
  simp only [onBar, hbars, List.any_eq_true, List.mem_range, decide_eq_true_eq]

theorem GuideRecord.barShapes_eq (r : GuideRecord) : r.barShapes =
    (if r.drawTraj then r.left else fixedShape r.fields 0, if r.drawTraj then r.right else fixedShape r.fields 9) := by
  rw [GuideRecord.barShapes]
  split <;> rfl

theorem GuideRecord.barCovers_iff (r : GuideRecord) (u x : Nat) : r.barCovers u x = true ↔
    onBar r.fields u = true ∧ (lineSpan r.fields r.barShapes.1 u).first ≤ (x : Int) ∧
      (x : Int) ≤ (lineSpan r.fields r.barShapes.2 u).last := by
  rw [GuideRecord.barCovers, Bool.and_eq_true, Span.covers_iff]

/-- Settles O50: a row's position interpolates its segment, and every cover is read from the spans around the positions. -/
theorem guideLinesCover : Obligations.GuideLinesCover := by
  refine ⟨fun shape h hh _ => ⟨fun k hk => linePosition_controlRow shape hh hk, linePosition_topRow shape hh,
      fun k v hk hv => ⟨?_, linePosition_between shape hk hv⟩⟩,
    fun t hband hwidths => ?_,
    fun t shape u => ⟨?_, lineSpan_width t shape u, fun x => Span.covers_iff⟩,
    fun _ => rfl,
    fun t left right u x => ?_,
    fun t u hmarks => ⟨zonePaint_zero, zonePaint_one, fun h => zonePaint_two (hmarks.trans h) h⟩,
    fun w0 w1 => ⟨congrArg (min · 4) (Word.hi_toNat w0), Word.lo_toNat w0, Word.hi_toNat w1, Word.lo_toNat w1⟩,
    fun r u x => ?_⟩
  · rw [Int.fdiv_eq_ediv_of_nonneg _ h.cast_nonneg]
    exact linePosition_place shape hk hv
  · have htop : lineWidth t (bandHeight t) = farWidth t := lineWidth_top (Nat.sub_pos_of_lt hband) hwidths
    refine ⟨lineWidth_zero t, htop, fun _ => rfl, fun u v huv hv => ⟨lineWidth_antitone t huv, ?_, Nat.sub_le ..⟩⟩
    exact htop.symm.le.trans (lineWidth_antitone t hv)
  · rw [Int.fdiv_eq_ediv_of_nonneg _ (by decide)]
    rfl
  · simp only [linesCover_iff, Span.covers_iff]
  · rw [GuideRecord.barCovers_iff, onBar_iff, GuideRecord.barShapes_eq]
    rfl

end Sys2Proof.Machine
end

section
/-! The keys of a seat: what a press leaves of the page stack, the highlight and the zone volume (O27 to O30). -/

namespace Sys2Proof.Machine

open Sys2Proof

section Keys

variable {s t : State} {seat : Side} {key : Key} {e : PageEntry} {stack rest : List PageEntry}

/-! A press, by the stack its effect leaves (R124, R132) -/

theorem timeoutOf_cons (pages : Table) (e : PageEntry) (rest : List PageEntry) : timeoutOf pages (e :: rest) =
    if (pageRecord pages e.page).timeout = 0 then none else some (pageRecord pages e.page).timeout := by
  have hzero : (pageRecord pages e.page).timeout = 0 ↔ pages.nat (8 * e.page + 7) = 0 := by
    simp [pageRecord]
  simp only [timeoutOf, hzero]
  rfl

theorem State.setTimeout_eq (h : (s.menus.get seat).stack = stack) : s.setTimeout seat = s.leaves seat stack := by
  cases stack with
  | nil => simp only [State.setTimeout, State.setMenu, State.menuOf, State.leaves, h, timeoutOf]
  | cons e rest => simp only [State.setTimeout, State.setMenu, State.menuOf, State.leaves, h, timeoutOf_cons]

theorem State.setTimeout_setStack (s : State) (seat : Side) (stack : List PageEntry) :
    (s.setStack seat stack).setTimeout seat = s.leaves seat stack := by
  cases seat <;> exact State.setTimeout_eq rfl

theorem State.pressKey_leaves (heffect : s.keyEffect seat key = t) (h : (t.menus.get seat).stack = stack) :
    s.pressKey seat key = t.leaves seat stack := by
  rw [State.pressKey, heffect, State.setTimeout_eq h]

theorem State.pressKey_setStack (heffect : s.keyEffect seat key = t.setStack seat stack) :
    s.pressKey seat key = t.leaves seat stack := by
  rw [State.pressKey, heffect, State.setTimeout_setStack]

theorem State.pressKey_denied (heffect : s.keyEffect seat key = s.deny) (h : (s.menus.get seat).stack = stack) :
    s.pressKey seat key = (s.requestChime (s.tables.control.nat 17)).leaves seat stack :=
  State.pressKey_leaves heffect h

/-! MENU and OPEN_PAGE (R129, R137) -/

theorem State.menuKey_denied (h : (s.menus.get seat).stack = []) (hroot : 32 ≤ s.rootPage seat) :
    s.menuKey seat = s.deny := by
  simp only [State.menuKey, State.menuOf, h]
  exact if_pos hroot

theorem State.menuKey_opens (h : (s.menus.get seat).stack = []) (hroot : s.rootPage seat < 32) :
    s.menuKey seat = s.pushPage seat (s.rootPage seat) := by
  simp only [State.menuKey, State.menuOf, h]
  exact if_neg hroot.not_ge

theorem State.menuKey_closes (h : (s.menus.get seat).stack ≠ []) : s.menuKey seat = s.setStack seat [] := by
  obtain ⟨e, rest, hstack⟩ := List.exists_cons_of_ne_nil h
  simp only [State.menuKey, State.menuOf, hstack]

theorem State.pushPage_eq (h : (s.menus.get seat).stack = stack) (page : Nat) : s.pushPage seat page =
    s.setStack seat (⟨page, firstHighlight (pageRecord s.tables.pages page) s.tables.items⟩ :: stack) := by
  rw [State.pushPage, State.menuOf, h]

theorem exec_openPage_refused {r : QueuedRequest} {q : List QueuedRequest} (h : s.takes .openPage r q)
    (hfull : 32 ≤ r.arg 1 ∨ 6 ≤ (s.menus.get (sideOf (r.arg 0))).stack.length) :
    exec .openPage s = .next ((s.withQueue q).finish r .value [] none) :=
  State.exec_takes_body (a := .of (s.withQueue q) .value []) h (if_pos hfull)

theorem exec_openPage_pushes {r : QueuedRequest} {q : List QueuedRequest} (h : s.takes .openPage r q)
    (hpage : r.arg 1 < 32) (hroom : (s.menus.get (sideOf (r.arg 0))).stack.length < 6) :
    exec .openPage s = .next (State.finish (((s.withQueue q).pushPage (sideOf (r.arg 0)) (r.arg 1)).setTimeout
      (sideOf (r.arg 0))) r .done [] none) :=
  State.exec_takes_body (a := .done (((s.withQueue q).pushPage (sideOf (r.arg 0)) (r.arg 1)).setTimeout
    (sideOf (r.arg 0)))) h (if_neg (not_or.mpr ⟨hpage.not_ge, hroom.not_ge⟩))

/-! Positions of a page (R128, R130) -/

theorem firstHighlight_eq_some {p : PageRecord} {items : Table} {i : Nat} : firstHighlight p items = some i ↔
    i < p.count ∧ p.enabledAt items i = true ∧ ∀ j, j < i → p.enabledAt items j = false := by
  simp only [firstHighlight, List.find?_range_eq_some, List.mem_range, Bool.not_eq_true']
  exact and_left_comm

theorem firstHighlight_eq_none {p : PageRecord} {items : Table} : firstHighlight p items = none ↔
    ∀ i, i < p.count → p.enabledAt items i = false := by
  simp only [firstHighlight, List.find?_range_eq_none, Bool.not_eq_true']

theorem find?_reverse_range_eq_some {n i : Nat} {p : Nat → Bool} : (List.range n).reverse.find? p = some i ↔
    i < n ∧ p i = true ∧ ∀ j, i < j → j < n → p j = false := by
  induction n with
  | zero => simp
  | succ n ih =>
    rw [List.range_succ, List.reverse_concat, List.find?_cons]
    cases hn : p n with
    | true =>
      refine ⟨fun h => ?_, fun ⟨hi, hp, hlast⟩ => ?_⟩
      · obtain rfl : n = i := Option.some.inj h
        exact ⟨n.lt_succ_self, hn, fun j hij hj => absurd hij (by omega)⟩
      · rcases (Nat.le_of_lt_succ hi).lt_or_eq with hlt | rfl
        · exact absurd (hlast n hlt n.lt_succ_self) (by simp [hn])
        · rfl
    | false =>
      refine ih.trans ⟨fun ⟨hi, hp, hlast⟩ => ⟨by omega, hp, fun j hij hj => ?_⟩, fun ⟨hi, hp, hlast⟩ => ⟨?_, hp, ?_⟩⟩
      · rcases (Nat.le_of_lt_succ hj).lt_or_eq with hlt | rfl
        · exact hlast j hij hlt
        · exact hn
      · rcases (Nat.le_of_lt_succ hi).lt_or_eq with hlt | rfl
        · exact hlt
        · exact absurd hp (by simp [hn])
      · exact fun j hij hj => hlast j hij (by omega)

/-- The least number below `n` with a property is the first the search meets. -/
theorem find?_range_lowest {n : Nat} {q : Nat → Bool} {P : Nat → Prop} (hP : ∀ i, P i ↔ i < n ∧ q i = true) :
    (∀ i, P i → (∀ j, j < i → ¬ P j) → (List.range n).find? q = some i) ∧
      ((∀ i, ¬ P i) → (List.range n).find? q = none) := by
  refine ⟨fun i hi hlowest => ?_, fun hnone => ?_⟩
  · obtain ⟨hn, hq⟩ := (hP i).mp hi
    refine List.find?_range_eq_some.mpr ⟨hq, List.mem_range.mpr hn, fun j hj => ?_⟩
    simpa using fun hqj => hlowest j hj ((hP j).mpr ⟨hj.trans hn, hqj⟩)
  · exact List.find?_eq_none.mpr fun i hi hq => hnone i ((hP i).mpr ⟨List.mem_range.mp hi, hq⟩)

/-- The greatest one is the first the search meets from the end. -/
theorem find?_reverse_range_highest {n : Nat} {q : Nat → Bool} {P : Nat → Prop} (hP : ∀ i, P i ↔ i < n ∧ q i = true) :
    (∀ i, P i → (∀ j, i < j → ¬ P j) → (List.range n).reverse.find? q = some i) ∧
      ((∀ i, ¬ P i) → (List.range n).reverse.find? q = none) := by
  refine ⟨fun i hi hhighest => ?_, fun hnone => ?_⟩
  · obtain ⟨hn, hq⟩ := (hP i).mp hi
    refine find?_reverse_range_eq_some.mpr ⟨hn, hq, fun j hj hjn => ?_⟩
    simpa using fun hqj => hhighest j hj ((hP j).mpr ⟨hjn, hqj⟩)
  · refine List.find?_eq_none.mpr fun i hi hq => hnone i ((hP i).mpr ⟨?_, hq⟩)
    exact List.mem_range.mp (List.mem_reverse.mp hi)

/-- Position `i` is one that DOWN may move to from the resolved highlight `h`. -/
def PageRecord.above (p : PageRecord) (items : Table) (h : Option Nat) (i : Nat) : Prop :=
  (i < p.count ∧ p.enabledAt items i = true) ∧ ∀ j, h = some j → j < i

/-- Position `i` is one that UP may move to from the resolved highlight `h`. -/
def PageRecord.below (p : PageRecord) (items : Table) (h : Option Nat) (i : Nat) : Prop :=
  (i < p.count ∧ p.enabledAt items i = true) ∧ ∀ j, h = some j → i < j

theorem downFrom_lowest (p : PageRecord) (items : Table) (h : Option Nat) :
    (∀ i, p.above items h i → (∀ j, j < i → ¬ p.above items h j) → downFrom p items h = some i) ∧
      ((∀ i, ¬ p.above items h i) → downFrom p items h = none) :=
  find?_range_lowest fun i => by cases h <;> simp [PageRecord.above, and_assoc]

theorem upFrom_highest (p : PageRecord) (items : Table) (h : Option Nat) :
    (∀ i, p.below items h i → (∀ j, i < j → ¬ p.below items h j) → upFrom p items h = some i) ∧
      ((∀ i, ¬ p.below items h i) → upFrom p items h = none) :=
  find?_reverse_range_highest fun i => by cases h <;> simp [PageRecord.below, and_assoc]

/-! UP and DOWN (R130) -/

section Move

variable {find : PageRecord → Table → Option Nat → Option Nat}

theorem State.moveKey_closed (h : (s.menus.get seat).stack = []) : s.moveKey seat find = s := by
  simp only [State.moveKey, State.menuOf, h]

theorem State.moveKey_moves (h : (s.menus.get seat).stack = e :: rest) {i : Nat}
    (hfind : find (pageRecord s.tables.pages e.page) s.tables.items
      (resolveHighlight (pageRecord s.tables.pages e.page) e.highlight) = some i) :
    s.moveKey seat find = State.setStack (s.requestChime (s.moveChime (pageRecord s.tables.pages e.page))) seat
      ({ e with highlight := some i } :: rest) := by
  simp only [State.moveKey, State.menuOf, h, hfind]
  rfl

theorem State.moveKey_denied (h : (s.menus.get seat).stack = e :: rest)
    (hfind : find (pageRecord s.tables.pages e.page) s.tables.items
      (resolveHighlight (pageRecord s.tables.pages e.page) e.highlight) = none) : s.moveKey seat find = s.deny := by
  simp only [State.moveKey, State.menuOf, h, hfind]

end Move

/-! SELECT (R131) -/

theorem resolveHighlight_none {p : PageRecord} {h : Option Nat} (hnone : p.count = 0 ∨ h = none) :
    resolveHighlight p h = none := by
  rcases hnone with hcount | rfl
  · exact if_pos hcount
  · exact ite_self _

theorem resolveHighlight_some {p : PageRecord} (hcount : 0 < p.count) (i : Nat) :
    resolveHighlight p (some i) = some (min i (p.count - 1)) :=
  if_neg hcount.ne'

theorem State.selectKey_closed (h : (s.menus.get seat).stack = []) : s.selectKey seat = s := by
  simp only [State.selectKey, State.menuOf, h]

theorem State.selectKey_unhighlighted (h : (s.menus.get seat).stack = e :: rest)
    (hnone : resolveHighlight (pageRecord s.tables.pages e.page) e.highlight = none) : s.selectKey seat = s.deny := by
  simp only [State.selectKey, State.menuOf, h, hnone]

theorem State.selectKey_highlighted (h : (s.menus.get seat).stack = e :: rest) {i : Nat}
    (hi : resolveHighlight (pageRecord s.tables.pages e.page) e.highlight = some i) : s.selectKey seat =
      if (pageRecord s.tables.pages e.page).enabledAt s.tables.items i then
        s.itemAction seat e ((pageRecord s.tables.pages e.page).item i)
      else s.deny := by
  simp only [State.selectKey, State.menuOf, h, hi]

/-! Item actions, by their kind (R133 to R135) -/

section Actions

variable {item : Nat}

theorem State.itemAction_unknown (hkind : actionKind s.tables.items item = 0 ∨ 7 < actionKind s.tables.items item) :
    s.itemAction seat e item = s.deny := by
  simp only [State.itemAction]
  split
  case h_8 => rfl
  all_goals omega

theorem State.itemAction_openDenied (hkind : actionKind s.tables.items item = 1)
    (hfull : 32 ≤ (actionArg s.tables.items item).toNat ∨ 6 ≤ (s.menus.get seat).stack.length) :
    s.itemAction seat e item = s.deny := by
  simp only [State.itemAction, hkind]
  exact if_pos hfull

theorem State.itemAction_opens (hkind : actionKind s.tables.items item = 1)
    (hpage : (actionArg s.tables.items item).toNat < 32) (hroom : (s.menus.get seat).stack.length < 6) :
    s.itemAction seat e item = (s.pushPage seat (actionArg s.tables.items item).toNat).requestChime
      (s.selectChime (pageRecord s.tables.pages e.page)) := by
  simp only [State.itemAction, hkind]
  exact if_neg (not_or.mpr ⟨hpage.not_ge, hroom.not_ge⟩)

theorem State.itemAction_back (hkind : actionKind s.tables.items item = 2) : s.itemAction seat e item =
    (s.popPage seat).requestChime (s.selectChime (pageRecord s.tables.pages e.page)) := by
  simp only [State.itemAction, hkind]

theorem State.itemAction_close (hkind : actionKind s.tables.items item = 3) : s.itemAction seat e item =
    (s.setStack seat []).requestChime (s.selectChime (pageRecord s.tables.pages e.page)) := by
  simp only [State.itemAction, hkind]

theorem State.itemAction_routeDenied (hkind : actionKind s.tables.items item = 4)
    (harg : ¬ ((actionArg s.tables.items item).toNat ≤ 3 ∨ (actionArg s.tables.items item).toNat = 15)) :
    s.itemAction seat e item = s.deny := by
  simp only [State.itemAction, hkind]
  exact if_neg harg

theorem State.itemAction_route (hkind : actionKind s.tables.items item = 4)
    (harg : (actionArg s.tables.items item).toNat ≤ 3 ∨ (actionArg s.tables.items item).toNat = 15) :
    s.itemAction seat e item = (State.offerRoute { s with tables := { s.tables with
      route := (s.tables.route.write (seatRoutes seat).1 (actionArg s.tables.items item)).write (seatRoutes seat).2
        (actionArg s.tables.items item) } } seat).requestChime
      (s.selectChime (pageRecord s.tables.pages e.page)) := by
  simp only [State.itemAction, hkind]
  exact if_pos harg

theorem State.itemAction_swap (hkind : actionKind s.tables.items item = 5) : s.itemAction seat e item =
    s.swapAction seat (s.selectChime (pageRecord s.tables.pages e.page)) := by
  simp only [State.itemAction, hkind]

theorem State.itemAction_notify (hkind : actionKind s.tables.items item = 6) : s.itemAction seat e item =
    s.notifyAction seat e.page item (actionArg s.tables.items item)
      (s.selectChime (pageRecord s.tables.pages e.page)) := by
  simp only [State.itemAction, hkind]

theorem State.itemAction_chime (hkind : actionKind s.tables.items item = 7) : s.itemAction seat e item =
    s.requestChime (actionArg s.tables.items item).toNat := by
  simp only [State.itemAction, hkind]

end Actions

/-! The SELECT notice (R41, R135) -/

section Notify

variable {page item chime : Nat} {arg : Word}

theorem State.notifyAction_wide (harg : 255 < arg.toNat) : s.notifyAction seat page item arg chime = s.deny :=
  if_pos harg

theorem State.notifyAction_disabled (harg : arg.toNat ≤ 255) (hoff : s.tables.control.nat 0 ≠ 1) :
    s.notifyAction seat page item arg chime = s.requestChime chime := by
  have hon : noticeEnabled s.tables.control .select = false := decide_eq_false hoff
  simp only [State.notifyAction, if_neg harg.not_gt, hon]
  rfl

theorem State.notifyAction_refused (harg : arg.toNat ≤ 255) (hon : s.tables.control.nat 0 = 1)
    (hfull : ¬ (s.notices.records.length < 16 ∧ s.notices.selects < 2)) :
    s.notifyAction seat page item arg chime = s.deny := by
  have henabled : noticeEnabled s.tables.control .select = true := decide_eq_true hon
  have hrefused : s.notices.acceptsSelect true = false := decide_eq_false hfull
  simp only [State.notifyAction, if_neg harg.not_gt, henabled, hrefused]
  rfl

theorem State.notifyAction_accepted (harg : arg.toNat ≤ 255) (hon : s.tables.control.nat 0 = 1)
    (hroom : s.notices.records.length < 16 ∧ s.notices.selects < 2) :
    s.notifyAction seat page item arg chime = State.requestChime { s with notices := { s.notices with
      records := s.notices.records ++ [⟨.select, Word.ofBytes (sideCode seat).lo (BitVec.ofNat 8 page),
        Word.ofBytes (BitVec.ofNat 8 item) arg.lo, s.notices.time⟩] } } chime := by
  have henabled : noticeEnabled s.tables.control .select = true := decide_eq_true hon
  have haccepted : s.notices.acceptsSelect true = true := decide_eq_true hroom
  simp only [State.notifyAction, if_neg harg.not_gt, henabled, haccepted, if_true, NoticeQueue.offerSelect,
    Bool.and_self]

end Notify

/-! The volume keys and the banner (R73, R136) -/

theorem State.pressKey_banner (heffect : s.keyEffect seat key = t.startBanner seat) (hmenus : t.menus = s.menus) :
    s.pressKey seat key = (t.startBanner seat).leaves seat (s.menus.get seat).stack := by
  refine State.pressKey_leaves heffect ?_
  rw [State.startBanner, State.setMenu_menus, Pair.get_set_same, State.menuOf, hmenus]

theorem State.volumeKey_raises (h : s.tables.mixer.nat (stepWord seat) < 20) :
    s.volumeKey seat true = (s.stepTo seat (s.tables.mixer.nat (stepWord seat) + 1)).startBanner seat :=
  congrArg (State.startBanner · seat) (if_pos h)

theorem State.volumeKey_atTop (h : 20 ≤ s.tables.mixer.nat (stepWord seat)) :
    s.volumeKey seat true = s.deny.startBanner seat :=
  congrArg (State.startBanner · seat) (if_neg h.not_gt)

theorem State.volumeKey_lowers (h : 0 < s.tables.mixer.nat (stepWord seat)) :
    s.volumeKey seat false = (s.stepTo seat (s.tables.mixer.nat (stepWord seat) - 1)).startBanner seat :=
  congrArg (State.startBanner · seat) (if_pos h)

theorem State.volumeKey_atBottom (h : s.tables.mixer.nat (stepWord seat) = 0) :
    s.volumeKey seat false = s.deny.startBanner seat :=
  congrArg (State.startBanner · seat) (if_neg h.not_gt)

end Keys

/-- Settles O27: each key's effect on the stack, and the timeout that follows it. -/
theorem menuAndBackKeys : Obligations.MenuAndBackKeys := by
  refine ⟨fun s seat => ?_, fun s r q h => ⟨exec_openPage_refused h, fun hpage hroom => ?_⟩,
    fun p items => ⟨fun i => firstHighlight_eq_some, firstHighlight_eq_none⟩⟩
  · intro stack root first
    have hroot : s.rootPage seat = root := by cases seat <;> rfl
    refine ⟨fun hclosed hwide => ?_, fun hclosed hpage => ?_, fun hopen => ?_, ?_⟩
    · exact State.pressKey_denied (State.menuKey_denied hclosed (hroot ▸ hwide)) hclosed
    · refine State.pressKey_setStack ((State.menuKey_opens hclosed (hroot ▸ hpage)).trans ?_)
      rw [State.pushPage_eq hclosed, hroot]
    · exact State.pressKey_setStack (State.menuKey_closes hopen)
    · exact State.pressKey_setStack rfl
  · rw [exec_openPage_pushes h hpage hroom, State.pushPage_eq rfl, State.setTimeout_setStack]
    rfl

/-- Settles O28: both keys move by one search over the page's positions, DOWN from the first and UP from the last. -/
theorem upDownMovesHighlight : Obligations.UpDownMovesHighlight := by
  refine ⟨fun s seat h => ?_, fun s seat e rest hstack => ?_⟩
  · exact ⟨State.pressKey_leaves (State.moveKey_closed h) h, State.pressKey_leaves (State.moveKey_closed h) h⟩
  · intro p enabled h above below own chime moved denied
    obtain ⟨hlowest, hnoneAbove⟩ := downFrom_lowest p s.tables.items h
    obtain ⟨hhighest, hnoneBelow⟩ := upFrom_highest p s.tables.items h
    refine ⟨fun i hi hleast => ?_, fun hnone => ?_, fun i hi hgreatest => ?_, fun hnone => ?_⟩
    · exact State.pressKey_setStack (State.moveKey_moves hstack (hlowest i hi hleast))
    · exact State.pressKey_denied (State.moveKey_denied hstack (hnoneAbove hnone)) hstack
    · exact State.pressKey_setStack (State.moveKey_moves hstack (hhighest i hi hgreatest))
    · exact State.pressKey_denied (State.moveKey_denied hstack (hnoneBelow hnone)) hstack

/-- Settles O29: the highlighted item is resolved, and its action kind decides. -/
theorem selectRunsAction : Obligations.SelectRunsAction := by
  refine ⟨fun s seat h => State.pressKey_leaves (State.selectKey_closed h) h, fun s seat e rest hstack => ?_⟩
  intro p denied answer
  refine ⟨fun hnone => ?_, fun h hcount hh => ?_⟩
  · exact State.pressKey_denied (State.selectKey_unhighlighted hstack (resolveHighlight_none hnone)) hstack
  intro item kind arg own chime first enabled
  have hlength : (s.menus.get seat).stack.length = rest.length + 1 := by rw [hstack, List.length_cons]
  have hselect := State.selectKey_highlighted hstack (hh ▸ resolveHighlight_some hcount h)
  have acts {t : State} (henabled : enabled) (haction : s.itemAction seat e item = t) : s.keyEffect seat .select = t :=
    hselect.trans ((if_pos henabled).trans haction)
  have denies (henabled : enabled) (haction : s.itemAction seat e item = s.deny) : answer = denied :=
    State.pressKey_denied (acts henabled haction) hstack
  refine ⟨fun hdisabled => ?_, fun henabled hkind => ?_, fun henabled hkind hfull => ?_,
    fun henabled hkind hpage hroom => ?_, fun henabled hkind => ?_, fun henabled hkind => ?_,
    fun henabled hkind harg => ?_, fun henabled hkind harg => ?_, fun henabled hkind => ?_,
    fun henabled hkind hwide => ?_, fun henabled hkind harg hoff => ?_, fun henabled hkind harg hon hfull => ?_,
    fun henabled hkind harg hon hrecords hselects => ?_, fun henabled hkind => ?_⟩
  · exact State.pressKey_denied (hselect.trans (if_neg hdisabled)) hstack
  · exact denies henabled (State.itemAction_unknown hkind)
  · exact denies henabled (State.itemAction_openDenied hkind (hlength ▸ hfull))
  · have haction := State.itemAction_opens (e := e) hkind hpage (hlength ▸ hroom)
    rw [State.pushPage_eq hstack] at haction
    exact State.pressKey_setStack (acts henabled haction)
  · have haction := State.itemAction_back (seat := seat) (e := e) hkind
    rw [State.popPage, State.menuOf, hstack] at haction
    exact State.pressKey_setStack (acts henabled haction)
  · exact State.pressKey_setStack (acts henabled (State.itemAction_close hkind))
  · exact denies henabled (State.itemAction_routeDenied hkind harg)
  · refine State.pressKey_leaves (acts henabled ((State.itemAction_route hkind harg).trans ?_)) hstack
    cases seat <;> rfl
  · exact State.pressKey_leaves (acts henabled (State.itemAction_swap hkind)) hstack
  · exact denies henabled ((State.itemAction_notify hkind).trans (State.notifyAction_wide hwide))
  · refine State.pressKey_leaves (acts henabled ((State.itemAction_notify hkind).trans ?_)) hstack
    exact State.notifyAction_disabled harg hoff
  · refine denies henabled ((State.itemAction_notify hkind).trans (State.notifyAction_refused harg hon ?_))
    exact fun hroom => hfull.elim hroom.1.not_ge hroom.2.not_ge
  · refine State.pressKey_leaves (acts henabled ((State.itemAction_notify hkind).trans ?_)) hstack
    exact State.notifyAction_accepted harg hon ⟨hrecords, hselects⟩
  · exact State.pressKey_leaves (acts henabled (State.itemAction_chime hkind)) hstack

/-- Settles O30: the step stays or moves by one, and the banner starts either way. -/
theorem volumeKeySteps : Obligations.VolumeKeySteps := by
  intro s seat word bank m shown stepped denied n
  cases seat <;> exact ⟨fun h => State.pressKey_banner (State.volumeKey_raises h) rfl,
    fun h => State.pressKey_banner (State.volumeKey_atTop h) rfl,
    fun h => State.pressKey_banner (State.volumeKey_lowers h) rfl,
    fun h => State.pressKey_banner (State.volumeKey_atBottom h) rfl⟩

end Sys2Proof.Machine
end

section
/-! The key pins and the timers of a seat: what reaches its Menu Engine (O26). -/

namespace Sys2Proof.Machine

open Sys2Proof

section Pins

variable {s : State} {seat : Side} {key : Key} {run : Nat}

/-! Samples, one after another (R122) -/

/-- Samples of the level that is not the debounced one raise a run count that stays below 20. -/
theorem State.keySamples_countOn (s : State) (seat : Side) (key : Key) (high : Bool) {n : Nat}
    (h : (s.menus.get seat).keys.get key = ⟨high, run⟩) (hn : run + n < 20) :
    (List.replicate n high).foldl (fun s x => s.keySample seat key x) s = s.setKey seat key ⟨high, run + n⟩ := by
  induction n with
  | zero => exact (State.setKey_same s seat key h).symm
  | succ n ih =>
    rw [List.replicate_succ', List.foldl_append, ih (by omega), List.foldl, List.foldl,
      State.keySample_counts (n := run + n) _ seat key high (State.setKey_get s seat key _) hn, State.setKey_setKey]
    rfl

/-- The samples that bring a run to its twentieth: all but the last only count. -/
theorem State.keySamples_last (s : State) (seat : Side) (key : Key) (high : Bool)
    (h : (s.menus.get seat).keys.get key = ⟨high, run⟩) (hrun : run < 20) :
    (List.replicate (20 - run) high).foldl (fun s x => s.keySample seat key x) s =
      (s.setKey seat key ⟨high, 19⟩).keySample seat key high := by
  have hlast : 20 - run = 19 - run + 1 := by omega
  rw [hlast, List.replicate_succ', List.foldl_append, State.keySamples_countOn s seat key high h (by omega),
    Nat.add_sub_cancel' (Nat.le_of_lt_succ hrun)]
  rfl

theorem State.keySample_debounced (s : State) (seat : Side) (key : Key) (level : Bool)
    (h : (s.menus.get seat).keys.get key = ⟨level, run⟩) :
    s.keySample seat key (!level) = s.setKey seat key ⟨level, 0⟩ := by
  have hd : Debouncer.sample ⟨level, run⟩ level = ⟨level, 0⟩ := Debouncer.sample_same level run
  simp only [State.keySample, State.menuOf, h, Bool.not_not, hd, if_true]

theorem exec_press (h : s.held = none) (samples : List Bool) :
    exec (.press seat key samples) s = .next (samples.foldl (fun s x => s.keySample seat key x) s) :=
  whenLive_live h fun s => samples.foldl (fun s x => s.keySample seat key x) s

theorem exec_keyRelease (h : s.held = none) (samples : List Bool) :
    exec (.keyRelease seat key samples) s = .next (samples.foldl (fun s x => s.keySample seat key x) s) :=
  whenLive_live h fun s => samples.foldl (fun s x => s.keySample seat key x) s

theorem exec_press_counts (hs : s.held = none) (h : (s.menus.get seat).keys.get key = ⟨false, run⟩) {n : Nat}
    (hn : run + n < 20) :
    exec (.press seat key (List.replicate n false)) s = .next (s.setKey seat key ⟨false, run + n⟩) := by
  rw [exec_press hs, State.keySamples_countOn s seat key false h hn]

theorem exec_press_pressed (hs : s.held = none) (h : (s.menus.get seat).keys.get key = ⟨false, run⟩) (hrun : run < 20) :
    exec (.press seat key (List.replicate (20 - run) false)) s = .next
      (if s.media then (s.setKey seat key ⟨true, 0⟩).handPress seat key else s.setKey seat key ⟨true, 0⟩) := by
  rw [exec_press hs, State.keySamples_last s seat key false h hrun,
    State.keySample_pressed _ seat key (State.setKey_get s seat key _) (by decide), State.setKey_setKey]
  rfl

theorem exec_keyRelease_counts (hs : s.held = none) (h : (s.menus.get seat).keys.get key = ⟨true, run⟩) {n : Nat}
    (hn : run + n < 20) :
    exec (.keyRelease seat key (List.replicate n true)) s = .next (s.setKey seat key ⟨true, run + n⟩) := by
  rw [exec_keyRelease hs, State.keySamples_countOn s seat key true h hn]

theorem exec_keyRelease_released (hs : s.held = none) (h : (s.menus.get seat).keys.get key = ⟨true, run⟩)
    (hrun : run < 20) : exec (.keyRelease seat key (List.replicate (20 - run) true)) s = .next
      ((s.setKey seat key ⟨false, 0⟩).setRepeat seat key none) := by
  rw [exec_keyRelease hs, State.keySamples_last s seat key true h hrun,
    State.keySample_released _ seat key (State.setKey_get s seat key _) (by decide), State.setKey_setKey]

/-- A key's debouncer and its repeat timer are set in one record. -/
theorem State.setRepeat_setKey (s : State) (seat : Side) (key : Key) (d : Debouncer) (timer : Option Nat) :
    (s.setKey seat key d).setRepeat seat key timer = s.setMenu seat { s.menus.get seat with
      keys := (s.menus.get seat).keys.set key d, repeats := (s.menus.get seat).repeats.set key timer } := by
  cases seat <;> rfl

/-! A press handed over (R123, R124) -/

theorem keyRepeats_iff (key : Key) :
    keyRepeats key = true ↔ key = .up ∨ key = .down ∨ key = .volUp ∨ key = .volDown := by
  cases key <;> decide

theorem State.handPress_repeating (h : keyRepeats key = true ∧ s.tables.control.nat 18 = 1) :
    s.handPress seat key = (s.setRepeat seat key (some 500)).pressKey seat key := by
  have hauto : s.autoRepeat = true := decide_eq_true h.2
  simp only [State.handPress, h.1, hauto]
  rfl

theorem State.handPress_once (h : ¬ (keyRepeats key = true ∧ s.tables.control.nat 18 = 1)) :
    s.handPress seat key = s.pressKey seat key := by
  have hnot : ¬ (keyRepeats key && s.autoRepeat) = true := by
    simpa only [Bool.and_eq_true, State.autoRepeat, decide_eq_true_iff] using h
  simp only [State.handPress, if_neg hnot]

theorem keyOf_eq {n : Nat} (h : n ≤ 6) :
    keyOf n = [Key.menu, .up, .down, .select, .back, .volUp, .volDown].getD n .menu := by
  interval_cases n <;> rfl

/-- A KEY request that passes the tests of R18 names one of the seven keys. -/
theorem State.takes_key_arg {r : QueuedRequest} {q : List QueuedRequest} (h : s.takes .key r q) : r.arg 1 ≤ 6 := by
  obtain ⟨-, -, hpasses⟩ := h
  obtain ⟨-, -, hargs⟩ := (requestRefusal_none_iff _ _ _).mp hpasses
  exact (of_decide_eq_true hargs).2

/-! The timers (R73, R123, R132) -/

theorem exec_repeatTimerExpiry_stopped (hs : s.held = none) (h : (s.menus.get seat).repeats.get key = none) :
    exec (.repeatTimerExpiry seat key) s = .next s := by
  rw [exec, execRepeatTimerExpiry, whenLive_live hs, State.menuOf, h]
  rfl

theorem exec_repeatTimerExpiry_running (hs : s.held = none) (h : (s.menus.get seat).repeats.get key ≠ none) :
    exec (.repeatTimerExpiry seat key) s = .next
      (if ((s.menus.get seat).keys.get key).level && s.media && s.autoRepeat then
        (s.setRepeat seat key (some 150)).pressKey seat key
      else s.setRepeat seat key none) := by
  obtain ⟨ms, hms⟩ := Option.ne_none_iff_exists'.mp h
  rw [exec, execRepeatTimerExpiry, whenLive_live hs, State.menuOf, hms]
  rfl

theorem State.repeats_iff (s : State) (pressed : Bool) : (pressed && s.media && s.autoRepeat) = true ↔
    pressed = true ∧ s.unit.service = .media ∧ s.tables.control.nat 18 = 1 := by
  simp only [State.media, State.autoRepeat, Bool.and_eq_true, decide_eq_true_iff, and_assoc]

theorem exec_timeoutExpiry_stopped (hs : s.held = none) (h : (s.menus.get seat).timeout = none) :
    exec (.timeoutExpiry seat) s = .next s := by
  rw [exec, execTimeoutExpiry, whenLive_live hs, State.menuOf, h]
  rfl

theorem exec_timeoutExpiry_running (hs : s.held = none) (h : (s.menus.get seat).timeout ≠ none) :
    exec (.timeoutExpiry seat) s = .next (s.setMenu seat { s.menus.get seat with stack := [], timeout := none }) := by
  obtain ⟨secs, hsecs⟩ := Option.ne_none_iff_exists'.mp h
  rw [exec, execTimeoutExpiry, whenLive_live hs, State.menuOf, hsecs]
  rfl

theorem exec_bannerExpiry (hs : s.held = none) :
    exec (.bannerExpiry seat) s = .next (s.setMenu seat { s.menus.get seat with banner := none }) :=
  whenLive_live hs fun s => s.setMenu seat { s.menuOf seat with banner := none }

end Pins

/-- Settles O26: the pins' samples, the KEY request and the timers reach the one press. -/
theorem pressesReachMenus : Obligations.PressesReachMenus := by
  refine ⟨⟨fun s seat key run hs hrun hkey => ?_, fun s seat key run hs hrun hkey => ?_, fun s r q h => ?_⟩,
    fun s seat hs => ?_⟩
  · intro m pressed timed repeating answer
    have hanswer : answer = _ := exec_press_pressed hs hkey hrun
    have hrepeating : repeating ↔ keyRepeats key = true ∧ (s.setKey seat key ⟨true, 0⟩).tables.control.nat 18 = 1 :=
      and_congr_left' (keyRepeats_iff key).symm
    refine ⟨fun hcam => ?_, fun hmedia honce => ?_, fun hmedia hrepeats => ?_, fun n => exec_press_counts hs hkey, ?_⟩
    · have hlive : s.media = false := by simp [State.media, hcam]
      rw [hanswer, hlive]
      rfl
    · have hlive : s.media = true := decide_eq_true hmedia
      rw [hanswer, if_pos hlive, State.handPress_once (mt hrepeating.mpr honce)]
      rfl
    · have hlive : s.media = true := decide_eq_true hmedia
      rw [hanswer, if_pos hlive, State.handPress_repeating (hrepeating.mp hrepeats), State.setRepeat_setKey]
      rfl
    · exact (exec_press hs [true]).trans (congrArg _ (State.keySample_debounced s seat key false hkey))
  · intro m
    refine ⟨?_, fun n => exec_keyRelease_counts hs hkey, ?_⟩
    · rw [exec_keyRelease_released hs hkey hrun, State.setRepeat_setKey]
      rfl
    · exact (exec_keyRelease hs [false]).trans (congrArg _ (State.keySample_debounced s seat key true hkey))
  · intro key
    have hkey : keyOf (r.arg 1) = key := keyOf_eq (State.takes_key_arg h)
    refine (State.exec_takes h).trans ?_
    rw [RequestName.body, keyBody, hkey]
    rfl
  · intro m with_
    refine ⟨fun key => ?_, exec_timeoutExpiry_stopped hs, exec_timeoutExpiry_running hs, exec_bannerExpiry hs⟩
    intro repeats
    have hrepeats := State.repeats_iff s (m.keys.get key).level
    refine ⟨exec_repeatTimerExpiry_stopped hs, fun hrun h => ?_, fun hrun h => ?_⟩
    · rw [exec_repeatTimerExpiry_running hs hrun, if_pos (hrepeats.mpr h)]
      rfl
    · rw [exec_repeatTimerExpiry_running hs hrun, if_neg (mt hrepeats.mp h)]
      rfl

end Sys2Proof.Machine
end

section
/-! What the page, item, tile and palette tables draw: the snapshot, the panel, the banner and a tile's pixels (O41). -/

namespace Sys2Proof.Machine

open Sys2Proof

/-! Item records and the snapshot (R126, R138) -/

theorem itemEnabled_iff (items : Table) (n : Nat) : itemEnabled items n = true ↔ 32768 ≤ items.nat (20 * n) := by
  have htop : itemEnabled items n = (items.read (20 * n)).msb := rfl
  rw [htop, BitVec.msb_eq_decide, decide_eq_true_iff]
  rfl

@[simp] theorem labelTiles_length (items : Table) (n : Nat) : (labelTiles items n).length = labelLength items n := by
  rw [labelTiles, List.length_map, List.length_range]

theorem labelTiles_getElem? {items : Table} {n c : Nat} (hc : c < labelLength items n) :
    (labelTiles items n)[c]? = some (items.nat (20 * n + 4 + c)) := by
  rw [labelTiles, List.getElem?_map, List.getElem?_range hc, Option.map_some]

theorem State.snapshot_closed {s : State} {seat : Side} (h : (s.menus.get seat).stack = []) :
    s.snapshot seat = none := by
  simp only [State.snapshot, State.menuOf, h]

theorem State.snapshot_open {s : State} {seat : Side} {e : PageEntry} {rest : List PageEntry}
    (h : (s.menus.get seat).stack = e :: rest) : s.snapshot seat =
      some ((List.range (pageRecord s.tables.pages e.page).count).map (menuRow (pageRecord s.tables.pages e.page)
        s.tables.items (resolveHighlight (pageRecord s.tables.pages e.page) e.highlight))) := by
  simp only [State.snapshot, State.menuOf, h]

/-! A tile's pixel (R70) -/

section Tiles

variable {tiles palettes : Table} {tile palette r x : Nat} {b : Rgb}

theorem tileIndex_beyond (h : 512 ≤ tile) : tileIndex tiles tile r x = 0 := if_pos h

/-- Pixel x is the x-th pair of bits from the top of the word that holds its half of the row. -/
theorem tileIndex_eq (h : tile < 512) : tileIndex tiles tile r x =
    ((tiles.read (32 * tile + 2 * r + x / 8)).extractLsb' (2 * (7 - x % 8)) 2).toNat := by
  have hindex : tileIndex tiles tile r x = tiles.nat (32 * tile + 2 * r + x / 8) / 4 ^ (7 - x % 8) % 4 :=
    if_neg h.not_ge
  rw [hindex, BitVec.extractLsb'_toNat, Nat.shiftRight_eq_div_pow, pow_mul]
  rfl

theorem tileOver_transparent (h : tileIndex tiles tile r x = 0) : tileOver tiles palettes tile palette r x b = b := by
  simp only [tileOver, h]

theorem tileOver_painted (h : tileIndex tiles tile r x ≠ 0) : tileOver tiles palettes tile palette r x b =
    (paletteEntry palettes palette (tileIndex tiles tile r x)).over b := by
  obtain ⟨k, hk⟩ := Nat.exists_eq_succ_of_ne_zero h
  simp only [tileOver, hk]

end Tiles

/-! The panel and the banner (R72, R73) -/

section Areas

variable {c tiles palettes : Table} {rows : List MenuRow} {n : BannerLatch} {x y u v : Nat} {b : Rgb}

theorem panelOver_outside (h : x < c.nat 8 ∨ c.nat 8 + 256 ≤ x ∨ y < c.nat 9 ∨ c.nat 9 + 192 ≤ y) :
    panelOver c tiles palettes (some rows) x y b = b :=
  if_neg (by omega)

/-- In the panel's area, 256 by 192 pixels, a place names its cell, and a cell that is there draws its tile. -/
theorem panelOver_inside (hu : u < 256) (hv : v < 192) :
    panelOver c tiles palettes (some rows) (c.nat 8 + u) (c.nat 9 + v) b =
      rows[v / 16]?.elim b fun row => row.tiles[u / 16]?.elim b fun tile =>
        tileOver tiles palettes tile row.palette (v % 16) (u % 16) b := by
  have hin : c.nat 8 ≤ c.nat 8 + u ∧ c.nat 8 + u < c.nat 8 + 256 ∧ c.nat 9 ≤ c.nat 9 + v ∧
      c.nat 9 + v < c.nat 9 + 192 := by omega
  simp only [panelOver, if_pos hin, Nat.add_sub_cancel_left]
  cases rows[v / 16]? with
  | none => rfl
  | some row => cases htile : row.tiles[u / 16]? <;> simp only [htile, Option.elim]

theorem bannerOver_outside (h : x < c.nat 10 ∨ c.nat 10 + 320 ≤ x ∨ y < c.nat 11 ∨ c.nat 11 + 16 ≤ y) :
    bannerOver c tiles palettes (some n) x y b = b :=
  if_neg (by omega)

theorem bannerOver_inside (hu : u < 320) (hv : v < 16) :
    bannerOver c tiles palettes (some n) (c.nat 10 + u) (c.nat 11 + v) b =
      tileOver tiles palettes (if u / 16 < n.step then n.filled else n.empty) (c.nat 12) v (u % 16) b := by
  have hin : c.nat 10 ≤ c.nat 10 + u ∧ c.nat 10 + u < c.nat 10 + 320 ∧ c.nat 11 ≤ c.nat 11 + v ∧
      c.nat 11 + v < c.nat 11 + 16 := by omega
  simp only [bannerOver, if_pos hin, Nat.add_sub_cancel_left]

end Areas

/-- Settles O41: the records, then each drawing from the place it is asked for to the pixel it takes. -/
theorem menuPanelAndBannerDraw : Obligations.MenuPanelAndBannerDraw := by
  refine ⟨fun pages items p n => ⟨rfl, rfl, rfl, rfl, rfl, rfl, rfl, rfl, itemEnabled_iff items n⟩,
    fun s seat => State.snapshot_closed, fun s seat e rest hstack => ?_,
    fun c tiles palettes rows x y b => ⟨rfl, panelOver_outside, fun u v hx hy hu hv => ?_⟩,
    fun c tiles palettes n x y b => ⟨rfl, bannerOver_outside, fun u v hx hy hu hv => ?_⟩,
    fun tiles palettes tile palette r x b _ _ => ?_⟩
  · intro p h
    refine ⟨_, State.snapshot_open hstack, by rw [List.length_map, List.length_range], fun i hi => ?_⟩
    refine ⟨menuRow p s.tables.items h i, ?_, labelTiles_length _ _, rfl, fun k => labelTiles_getElem?⟩
    rw [List.getElem?_map, List.getElem?_range hi]
    rfl
  · rw [hx, hy, panelOver_inside hu hv]
    refine ⟨fun hrow => ?_, fun row hrow => ⟨fun htile => ?_, fun tile htile => ?_⟩⟩
    · rw [List.getElem?_eq_none hrow, Option.elim_none]
    · rw [hrow, Option.elim_some, List.getElem?_eq_none htile, Option.elim_none]
    · rw [hrow, Option.elim_some, htile, Option.elim_some]
  · rw [hx, hy]
    exact bannerOver_inside hu hv
  · intro word index w0 w1
    refine ⟨fun hclear => tileOver_transparent ?_, fun htile hindex => ?_⟩
    · rcases lt_or_ge tile 512 with htile | htile
      · exact (tileIndex_eq htile).trans (hclear.resolve_left htile.not_ge)
      · exact tileIndex_beyond htile
    · have hpixel : tileIndex tiles tile r x = index := tileIndex_eq htile
      rw [tileOver_painted (hpixel.trans_ne hindex), hpixel]
      rfl

end Sys2Proof.Machine
end

section
/-! A sound parcel and the ring of its programme (O9). -/

namespace Sys2Proof.Machine

open Sys2Proof

section Arrivals

variable {s : State} {p : Prog} {r : Ring} {frames : List Stereo}

/-- No events counted is no change. -/
theorem State.bump_none (s : State) (i : Nat) : s.bump i 0 = s := rfl

/-! A ring that frames join (R142) -/

theorem Ring.join_frames (h : r.frames.length ≤ 512) : (r.join frames).frames = (r.frames ++ frames).take 512 := by
  rw [List.take_append, List.take_of_length_le h]
  rfl

theorem Ring.dropped_eq (h : r.frames.length ≤ 512) : r.dropped frames = r.frames.length + frames.length - 512 := by
  rw [Ring.dropped, Config.ringDepth_eq]
  omega

theorem Ring.primed_join_iff (h : r.frames.length ≤ 512) :
    (r.join frames).primed = true ↔ r.state = .priming ∧ 256 ≤ min 512 (r.frames.length + frames.length) := by
  rw [Ring.primed, decide_eq_true_eq, Ring.join_length r frames h]
  rfl

/-! The arrival, by the state of the ring -/

theorem State.soundArrives_unrouted (h : (s.rings.get p).state = .unrouted) : s.soundArrives p frames = s := if_pos h

/-- The frames that found no room are counted, and nothing is counted where all found room. -/
theorem State.bump_dropped (s : State) (i n : Nat) : (if n = 0 then s else s.bump i n) = s.bump i n := by
  split
  next h => rw [h, State.bump_none]
  next => rfl

theorem State.soundArrives_joins (h : (s.rings.get p).state ≠ .unrouted)
    (hprimed : ¬ ((s.rings.get p).join frames).primed = true) : s.soundArrives p frames =
      (s.bump (cntSoundOverflow p) ((s.rings.get p).dropped frames)).setRing p ((s.rings.get p).join frames) := by
  rw [State.soundArrives, if_neg h]
  simp only [State.bump_dropped, if_neg hprimed]

theorem State.soundArrives_starts (h : (s.rings.get p).state ≠ .unrouted)
    (hprimed : ((s.rings.get p).join frames).primed = true) : s.soundArrives p frames =
      ((s.bump (cntSoundOverflow p) ((s.rings.get p).dropped frames)).setRing p
        { (s.rings.get p).join frames with state := .playing }).offerSound p .playing := by
  rw [State.soundArrives, if_neg h]
  simp only [State.bump_dropped, if_pos hprimed]

/-- An arrival reaches the ring of its programme, its overflow counter and the notices; nothing else. -/
theorem State.soundArrives_frame (s : State) (p : Prog) (frames : List Stereo) : let t := s.soundArrives p frames
    t = { s with rings := t.rings, notices := t.notices, tables := { s.tables with stats := t.tables.stats } } ∧
      (∀ q, q ≠ p → t.rings.get q = s.rings.get q) ∧ ∀ j, j ≠ cntSoundOverflow p → t.counter j = s.counter j := by
  by_cases h : (s.rings.get p).state = .unrouted
  · rw [State.soundArrives_unrouted h]
    exact ⟨rfl, fun _ _ => rfl, fun _ _ => rfl⟩
  · by_cases hprimed : ((s.rings.get p).join frames).primed = true
    · rw [State.soundArrives_starts h hprimed]
      exact ⟨rfl, fun q hq => Quad.get_set_other _ _ hq, fun j hj => s.bump_counter_other _ hj⟩
    · rw [State.soundArrives_joins h hprimed]
      exact ⟨rfl, fun q hq => Quad.get_set_other _ _ hq, fun j hj => s.bump_counter_other _ hj⟩

/-- In MEDIA a valid sound parcel brings its frames to the ring of its programme (R7). -/
theorem State.receive_sound (hm : s.media = true) {w0 w1 w2 : Word} {payload : List Word} (hk : kindField w0 = 3)
    (hcount : countField w1 = payload.length) (hlegal : downstreamLegal 3 payload.length) :
    s.receive (parcelWords w0 w1 w2 payload) = s.linkAlive.soundArrives (progField w0) (unpackFrames payload) := by
  have hvalid := classify_valid (w0 := w0) (w1 := w1) (w2 := w2) (k := .sound) (by rw [hk]; rfl) hcount
    (hk.symm ▸ hlegal)
  have hm' : s.linkAlive.media = true := by rw [State.media, State.linkAlive_unit]; exact hm
  rw [State.receive_valid hvalid, State.dispatch]
  exact if_pos hm'

end Arrivals

/-- Settles O9: an UNROUTED ring refuses the frames; another takes what it has room for and starts when primed. -/
theorem soundParcelFillsRing : Obligations.SoundParcelFillsRing := by
  intro s w0 w1 w2 payload hs hmedia hwf hk hcount hlegal p r frames level
  have hring : s.linkAlive.rings.get p = r := congrArg (Quad.get · p) s.linkAlive_rings
  have hcounter : ∀ j, s.linkAlive.counter j = s.counter j := fun j => by rw [State.counter, State.linkAlive_tables]; rfl
  obtain ⟨hframe, hrings, hcounters⟩ := s.linkAlive.soundArrives_frame p frames
  rw [State.linkAlive_tables] at hframe
  simp only [State.linkAlive_rings] at hrings
  refine ⟨s.linkAlive.soundArrives p frames, ?_, hframe, hrings, fun j hj => (hcounters j hj).trans (hcounter j),
    fun hunrouted => State.soundArrives_unrouted (hring ▸ hunrouted), fun hrouted hdepth => ?_⟩
  · rw [exec_sound hs, State.receive_sound (decide_eq_true hmedia) hk hcount hlegal]
  have hstate : (s.linkAlive.rings.get p).state ≠ .unrouted := by rwa [hring]
  have hlost : (s.linkAlive.bump (cntSoundOverflow p) (r.dropped frames)).counter (16 + p.val) =
      min (s.counter (16 + p.val) + (r.frames.length + frames.length - 512)) 65535 := by
    rw [cntSoundOverflow, State.bump_counter_same (by rwa [State.linkAlive_tables]), hcounter, Ring.dropped_eq hdepth]
  by_cases hprimed : (r.join frames).primed = true
  · have hstarts := State.soundArrives_starts hstate (by rwa [hring])
    rw [hring] at hstarts
    rw [hstarts, State.offerSound_rings, State.setRing_rings, Quad.get_set_same]
    exact ⟨Ring.join_frames hdepth, hlost, fun _ => ⟨rfl, rfl⟩,
      fun hnot => absurd ((Ring.primed_join_iff hdepth).mp hprimed) hnot⟩
  · have hjoins := State.soundArrives_joins hstate (by rwa [hring])
    rw [hring] at hjoins
    rw [hjoins, State.setRing_rings, Quad.get_set_same]
    exact ⟨Ring.join_frames hdepth, hlost, fun hyes => absurd ((Ring.primed_join_iff hdepth).mpr hyes) hprimed,
      fun _ => ⟨rfl, rfl⟩⟩

end Sys2Proof.Machine
end

section
/-! The stages of a sample tick, one by one: the frames the programmes give, the claims, the output frames and the counters
of each (R141 to R151). -/

namespace Sys2Proof.Machine

open Sys2Proof

/-- A PLAYING ring that holds no frame: it underruns at a tick (R143). -/
def Ring.starved (r : Ring) : Bool := decide (r = ⟨.playing, []⟩)

/-- The ring after it has given its frame (R143). -/
def Ring.given : Ring → Ring
  | ⟨.playing, _ :: rest⟩ => ⟨.playing, rest⟩
  | ⟨.playing, []⟩ => ⟨.priming, []⟩
  | r => r

/-- Only what a sample tick may change has changed. -/
def TickedFrom (s t : State) : Prop :=
  t = { s with
    outlets := t.outlets, rings := t.rings, notices := t.notices, chimes := t.chimes
    tables := { s.tables with stats := t.tables.stats } }

section Stages

variable {s t u v : State} {p : Prog} {r : Ring}

theorem TickedFrom.trans (h : TickedFrom s t) (k : TickedFrom t u) : TickedFrom s u := by
  rw [TickedFrom] at k
  rw [h] at k
  exact k

theorem TickedFrom.unit (h : TickedFrom s t) : t.unit = s.unit :=
  have frame : t = _ := h
  (congrArg State.unit frame).trans rfl

theorem TickedFrom.tables (h : TickedFrom s t) : t.tables = { s.tables with stats := t.tables.stats } :=
  have frame : t = _ := h
  (congrArg State.tables frame).trans rfl

theorem TickedFrom.control (h : TickedFrom s t) : t.tables.control = s.tables.control :=
  (congrArg TableStore.control h.tables).trans rfl

/-! One programme gives its frame (R143) -/

theorem Ring.starved_iff : r.starved = true ↔ r = ⟨.playing, []⟩ := decide_eq_true_iff

theorem Ring.given_quiet (h : r.state ≠ .playing) : r.given = r := by
  obtain ⟨st, frames⟩ := r
  cases st with
  | playing => exact absurd rfl h
  | unrouted => rfl
  | priming => rfl

theorem Quad.set_get {α : Type} (q : Quad α) (p : Prog) : q.set p (q.get p) = q := by fin_cases p <;> rfl

theorem State.giveFrame_fed (h : (s.rings.get p).starved = false) :
    s.giveFrame p = s.setRing p (s.rings.get p).given := by
  by_cases hplay : (s.rings.get p).state = .playing
  · obtain ⟨frame, rest, hring⟩ : ∃ frame rest, s.rings.get p = ⟨.playing, frame :: rest⟩ := by
      cases hr : s.rings.get p with
      | mk st frames =>
        obtain rfl : st = .playing := by rwa [hr] at hplay
        cases frames with
        | nil => exact absurd (Ring.starved_iff.mpr hr) (by rw [h]; decide)
        | cons frame rest => exact ⟨frame, rest, rfl⟩
    unfold State.giveFrame
    rw [hring]
    rfl
  · rw [Ring.given_quiet hplay, State.setRing, Quad.set_get]
    exact if_neg hplay

theorem State.giveFrame_starved (h : (s.rings.get p).starved = true) : s.giveFrame p =
    ((s.bump (cntUnderrun p) 1).setRing p (s.rings.get p).given).offerSound p .priming := by
  unfold State.giveFrame
  rw [Ring.starved_iff.mp h]
  rfl

theorem State.giveFrame_ticked (s : State) (p : Prog) : TickedFrom s (s.giveFrame p) := by
  cases h : (s.rings.get p).starved with
  | true => rw [State.giveFrame_starved h]; rfl
  | false => rw [State.giveFrame_fed h]; rfl

theorem State.giveFrame_rings (s : State) (p : Prog) : (s.giveFrame p).rings = s.rings.set p (s.rings.get p).given := by
  cases h : (s.rings.get p).starved with
  | true => rw [State.giveFrame_starved h]; rfl
  | false => rw [State.giveFrame_fed h]; rfl

/-- An underrun is counted; a programme that gives or waits counts none. -/
theorem State.giveFrame_stats (s : State) (p : Prog) : (s.giveFrame p).tables.stats =
    countUp s.tables.stats (cntUnderrun p) (s.rings.get p).starved.toNat := by
  cases h : (s.rings.get p).starved with
  | true => rw [State.giveFrame_starved h]; rfl
  | false => rw [State.giveFrame_fed h]; rfl

theorem State.giveFrame_control (s : State) (p : Prog) : (s.giveFrame p).tables.control = s.tables.control :=
  (s.giveFrame_ticked p).control

theorem State.giveFrame_ring_other (s : State) {p q : Prog} (h : q ≠ p) :
    (s.giveFrame p).rings.get q = s.rings.get q := by
  rw [State.giveFrame_rings, Quad.get_set_other _ _ h]

theorem State.giveFrame_counter_other (s : State) (p : Prog) {j : Nat} (hj : j ≠ cntUnderrun p) :
    (s.giveFrame p).counter j = s.counter j := by
  rw [State.counter, State.giveFrame_stats]
  exact countUp_other _ _ hj

theorem State.giveFrame_counter_same (hwf : s.tables.stats.wf = true) (p : Prog) :
    (s.giveFrame p).counter (cntUnderrun p) =
      min (s.counter (cntUnderrun p) + (s.rings.get p).starved.toNat) 65535 := by
  rw [State.counter, State.giveFrame_stats]
  exact State.bump_counter_same hwf _ _

theorem State.giveFrame_wf (hwf : s.tables.stats.wf = true) (p : Prog) : (s.giveFrame p).tables.stats.wf = true := by
  rw [State.giveFrame_stats]
  exact countUp_wf hwf _ _

/-! All programmes, in their order -/

/-- The programmes as the frames are given. -/
def progs : List Prog := [0, 1, 2, 3]

theorem mem_progs (p : Prog) : p ∈ progs := by fin_cases p <;> decide

theorem State.giveFrames_eq_foldl (s : State) : s.giveFrames = progs.foldl State.giveFrame s := by
  simp only [State.giveFrames, progs, List.foldl_cons, List.foldl_nil]

theorem State.giveFrames_ticked (s : State) : TickedFrom s s.giveFrames :=
  (((s.giveFrame_ticked 0).trans (State.giveFrame_ticked _ 1)).trans (State.giveFrame_ticked _ 2)).trans
    (State.giveFrame_ticked _ 3)

@[simp] theorem State.giveFrames_outlets (s : State) : s.giveFrames.outlets = s.outlets := by
  simp only [State.giveFrames, State.giveFrame_outlets]

@[simp] theorem State.giveFrames_chimes (s : State) : s.giveFrames.chimes = s.chimes := by
  simp only [State.giveFrames, State.giveFrame_chimes]

theorem State.giveFrames_ring (s : State) (p : Prog) : s.giveFrames.rings.get p = (s.rings.get p).given := by
  simp only [State.giveFrames, State.giveFrame_rings]
  fin_cases p <;> rfl

theorem State.giveFrames_wf (hwf : s.tables.stats.wf = true) : s.giveFrames.tables.stats.wf = true :=
  State.giveFrame_wf (State.giveFrame_wf (State.giveFrame_wf (State.giveFrame_wf hwf 0) 1) 2) 3

theorem State.foldl_giveFrame_counter_other (l : List Prog) {j : Nat} (hj : ∀ p ∈ l, j ≠ cntUnderrun p) :
    (l.foldl State.giveFrame s).counter j = s.counter j := by
  induction l generalizing s with
  | nil => rfl
  | cons p l ih =>
    rw [List.forall_mem_cons] at hj
    exact (ih hj.2).trans (s.giveFrame_counter_other p hj.1)

theorem cntUnderrun_apart {p q : Prog} (h : q ≠ p) : cntUnderrun p ≠ cntUnderrun q :=
  fun he => h (Fin.ext (Nat.add_left_cancel he).symm)

/-- Each programme's underrun is counted once, whatever the programmes before and after it do. -/
theorem State.foldl_giveFrame_counter_same {l : List Prog} (hl : l.Nodup) (hp : p ∈ l)
    (hwf : s.tables.stats.wf = true) : (l.foldl State.giveFrame s).counter (cntUnderrun p) =
      min (s.counter (cntUnderrun p) + (s.rings.get p).starved.toNat) 65535 := by
  induction l generalizing s with
  | nil => cases hp
  | cons q l ih =>
    obtain ⟨hq, hl⟩ := List.nodup_cons.mp hl
    by_cases hqp : q = p
    · subst hqp
      exact (State.foldl_giveFrame_counter_other l fun _ hx =>
        cntUnderrun_apart (ne_of_mem_of_not_mem hx hq)).trans
        (State.giveFrame_counter_same hwf q)
    · rw [List.foldl_cons, ih hl ((List.mem_cons.mp hp).resolve_left (Ne.symm hqp)) (State.giveFrame_wf hwf q),
        s.giveFrame_counter_other q (cntUnderrun_apart hqp), s.giveFrame_ring_other (Ne.symm hqp)]

/-- The notices of the programmes that starve, offered one after the other to a queue that began the same (log 12). -/
theorem State.foldl_giveFrame_notices {l : List Prog} (hl : l.Nodup) {starves : Prog → Prop} [DecidablePred starves]
    (hstarves : ∀ p ∈ l, starves p ↔ (u.rings.get p).starved = true) (hnotices : u.notices = v.notices)
    (hcontrol : u.tables.control = v.tables.control) :
    (l.foldl State.giveFrame u).notices = (l.foldl (fun (v : State) p =>
      if starves p then v.offerNotice .sound (BitVec.ofNat 16 p.val) 1 else v) v).notices := by
  induction l generalizing u v with
  | nil => exact hnotices
  | cons p l ih =>
    obtain ⟨hp, hl⟩ := List.nodup_cons.mp hl
    obtain ⟨hthis, hrest⟩ := List.forall_mem_cons.mp hstarves
    have hkept : ∀ q ∈ l, starves q ↔ ((u.giveFrame p).rings.get q).starved = true := fun q hq => by
      rw [u.giveFrame_ring_other (ne_of_mem_of_not_mem hq hp)]
      exact hrest q hq
    rw [List.foldl_cons, List.foldl_cons]
    by_cases hstarve : starves p
    · rw [if_pos hstarve]
      refine ih hl hkept ?_ ((u.giveFrame_control p).trans hcontrol)
      rw [State.giveFrame_starved (hthis.mp hstarve), State.offerNotice_notices, ← hnotices, ← hcontrol]
      rfl
    · rw [if_neg hstarve]
      refine ih hl hkept ?_ ((u.giveFrame_control p).trans hcontrol)
      rw [State.giveFrame_fed (Bool.eq_false_iff.mpr (mt hthis.mpr hstarve))]
      exact hnotices

/-! Sources and claims (R141) -/

theorem State.claimed_iff : s.claimed p = true ↔ s.unit.service = .media ∧
    ∃ o, (s.outlets.get o).current = some p ∨ (s.outlets.get o).pending = some (some p) := by
  simp only [State.claimed, State.media, OutletState.holds, Bool.and_eq_true, Bool.or_eq_true, decide_eq_true_eq]
  refine and_congr_right fun _ => ⟨?_, ?_⟩
  · rintro ((h | h) | h)
    exacts [⟨.zoneA, h⟩, ⟨.zoneB, h⟩, ⟨.cabin, h⟩]
  · rintro ⟨o, h⟩
    cases o with
    | zoneA => exact .inl (.inl h)
    | zoneB => exact .inl (.inr h)
    | cabin => exact .inr h

theorem State.tickSources_ring (s : State) (p : Prog) :
    s.tickSources.rings.get p = (s.rings.get p).claim (s.tickSources.claimed p) := by
  fin_cases p <;> rfl

theorem State.tickSources_outlet (s : State) (o : Outlet) :
    s.tickSources.outlets.get o = s.tickOutlet o (s.outlets.get o) := by
  cases o <;> rfl

/-! Output frames (R151) -/

theorem State.mix_ticked (s : State) (frames : Quad Stereo) : TickedFrom s (s.mix frames) :=
  have put : ∀ outlets, TickedFrom s { s with outlets := outlets } := fun _ => rfl
  have bumped : ∀ (u : State) i n, TickedFrom u (u.bump i n) := fun _ _ _ => rfl
  (((put _).trans (bumped _ _ _)).trans (bumped _ _ _)).trans (bumped _ _ _)

theorem State.advanceVoices_ticked (s : State) : TickedFrom s s.advanceVoices := rfl

@[simp] theorem State.advanceVoices_counter (s : State) (j : Nat) : s.advanceVoices.counter j = s.counter j := rfl

theorem State.mix_outlet (s : State) (frames : Quad Stereo) (o : Outlet) : (s.mix frames).outlets.get o =
    { s.outlets.get o with out := outputFrame (s.outletSums frames o) } := by
  cases o <;> rfl

theorem State.mix_counter_other (s : State) (frames : Quad Stereo) {j : Nat} (hj : ∀ o, j ≠ cntClip o) :
    (s.mix frames).counter j = s.counter j :=
  ((State.bump_counter_other _ _ (hj .cabin)).trans (State.bump_counter_other _ _ (hj .zoneB))).trans
    (State.bump_counter_other _ _ (hj .zoneA))

theorem State.mix_counter_clip (hwf : s.tables.stats.wf = true) (frames : Quad Stereo) (o : Outlet) :
    (s.mix frames).counter (cntClip o) = min (s.counter (cntClip o) +
      clipCount (s.outletSums frames o).1 (s.outletSums frames o).2) 65535 := by
  have hwfA := countUp_wf hwf (cntClip .zoneA)
  cases o with
  | zoneA =>
    exact ((State.bump_counter_other _ _ (by decide)).trans (State.bump_counter_other _ _ (by decide))).trans
      (State.bump_counter_same hwf _ _)
  | zoneB =>
    refine ((State.bump_counter_other _ _ (by decide)).trans (State.bump_counter_same (hwfA _) _ _)).trans ?_
    exact congrArg (fun c => min (c + _) 65535) (State.bump_counter_other _ _ (by decide))
  | cabin =>
    refine (State.bump_counter_same (countUp_wf (hwfA _) _ _) _ _).trans (congrArg (fun c => min (c + _) 65535) ?_)
    exact (State.bump_counter_other _ _ (by decide)).trans (State.bump_counter_other _ _ (by decide))

/-! The whole tick -/

theorem exec_sampleTick (h : s.held = none) : exec .sampleTick s = .next s.sampleTick := whenLive_live h State.sampleTick

/-- The state a tick mixes from: ends settled, sources and claims judged (R150). -/
def State.sourced (s : State) : State := s.settleEnds.tickSources

@[simp] theorem State.sourced_counter (s : State) (j : Nat) : s.sourced.counter j = s.counter j := rfl

theorem State.sampleTick_eq (s : State) :
    s.sampleTick = (s.sourced.giveFrames.mix s.sourced.tickFrames).advanceVoices := rfl

theorem State.sourced_ticked (s : State) : TickedFrom s s.sourced := rfl

theorem State.sampleTick_ticked (s : State) : TickedFrom s s.sampleTick := by
  rw [State.sampleTick_eq]
  exact (s.sourced_ticked.trans s.sourced.giveFrames_ticked).trans
    ((State.mix_ticked _ _).trans (State.advanceVoices_ticked _))

theorem State.sampleTick_outlet (s : State) (o : Outlet) : s.sampleTick.outlets.get o =
    { s.settleEnds.tickOutlet o (s.outlets.get o) with
      out := outputFrame (s.sourced.giveFrames.outletSums s.sourced.tickFrames o) } := by
  rw [State.sampleTick_eq, State.advanceVoices_outlets, State.mix_outlet, State.giveFrames_outlets, State.sourced,
    State.tickSources_outlet]
  rfl

/-- Mixing and playback come after the claims and move no source, so the claims of a tick are those of its end. -/
theorem State.sampleTick_claimed (s : State) (p : Prog) : s.sampleTick.claimed p = s.sourced.claimed p := by
  have hunit : s.sampleTick.unit = s.sourced.unit := s.sampleTick_ticked.unit.trans s.sourced_ticked.unit.symm
  rw [Bool.eq_iff_iff, State.claimed_iff, State.claimed_iff, hunit]
  simp only [State.sampleTick_outlet, State.sourced, State.tickSources_outlet, State.settleEnds_outlets]

theorem State.sourced_ring (s : State) (p : Prog) :
    s.sourced.rings.get p = (s.rings.get p).claim (s.sampleTick.claimed p) := by
  rw [State.sampleTick_claimed]
  exact s.settleEnds.tickSources_ring p

theorem State.sampleTick_ring (s : State) (p : Prog) :
    s.sampleTick.rings.get p = ((s.rings.get p).claim (s.sampleTick.claimed p)).given := by
  rw [← State.sourced_ring, State.sampleTick_eq, State.advanceVoices_rings, State.mix_rings, State.giveFrames_ring]

theorem State.sampleTick_underrun (hwf : s.tables.stats.wf = true) (p : Prog) : s.sampleTick.counter (20 + p.val) =
    min (s.counter (20 + p.val) + ((s.rings.get p).claim (s.sampleTick.claimed p)).starved.toNat) 65535 := by
  have hclip : ∀ o, 20 + p.val ≠ cntClip o := by
    intro o
    have := p.isLt
    cases o <;> simp only [cntClip] <;> omega
  have hgiven := State.foldl_giveFrame_counter_same (s := s.sourced) (by decide) (mem_progs p) hwf
  rw [cntUnderrun, State.sourced_counter, State.sourced_ring] at hgiven
  rw [← hgiven, State.sampleTick_eq, State.advanceVoices_counter, State.mix_counter_other _ _ hclip,
    State.giveFrames_eq_foldl]

theorem State.sampleTick_clip (hwf : s.tables.stats.wf = true) (o : Outlet) : s.sampleTick.counter (cntClip o) =
    min (s.counter (cntClip o) + clipCount (s.sourced.giveFrames.outletSums s.sourced.tickFrames o).1
      (s.sourced.giveFrames.outletSums s.sourced.tickFrames o).2) 65535 := by
  have hunderrun : ∀ p ∈ progs, cntClip o ≠ cntUnderrun p := by
    intro p _
    have := p.isLt
    cases o <;> simp only [cntClip, cntUnderrun] <;> omega
  have hgiven : s.sourced.giveFrames.counter (cntClip o) = s.counter (cntClip o) := by
    rw [State.giveFrames_eq_foldl, State.foldl_giveFrame_counter_other progs hunderrun, State.sourced_counter]
  have hwf' : s.sourced.giveFrames.tables.stats.wf = true := State.giveFrames_wf hwf
  rw [State.sampleTick_eq, State.advanceVoices_counter, State.mix_counter_clip hwf', hgiven]

end Stages

/-! A claim, by the state of the ring (R141) -/

section Claims

variable {s : State} {p : Prog} {r : Ring}

theorem Ring.claim_unclaimed (r : Ring) : r.claim false = ⟨.unrouted, []⟩ := rfl

theorem Ring.claim_new (h : r.state = .unrouted) : r.claim true = ⟨.priming, []⟩ := if_pos h

theorem Ring.claim_kept (h : r.state ≠ .unrouted) : r.claim true = r := if_neg h

theorem Ring.starved_false (h : r.state ≠ .playing) : r.starved = false :=
  decide_eq_false fun he => h (congrArg Ring.state he)

/-- After a claim the ring is starved just if it was, and is claimed; it is then PRIMING after the tick. -/
theorem Ring.claim_starved_iff (claimed : Bool) : (r.claim claimed).starved = true ↔
    r = ⟨.playing, []⟩ ∧ (r.claim claimed).given.state = .priming := by
  cases claimed with
  | false => exact ⟨fun h => absurd h (by rw [Ring.claim_unclaimed]; decide), fun h => nomatch h.2⟩
  | true =>
    by_cases hnew : r.state = .unrouted
    · rw [Ring.claim_new hnew]
      exact ⟨fun h => absurd h (by decide), fun h => absurd hnew (by rw [h.1]; decide)⟩
    · rw [Ring.claim_kept hnew, Ring.starved_iff]
      exact ⟨fun h => ⟨h, by rw [h]; rfl⟩, And.left⟩

end Claims

/-- Settles O52: the ring of each programme follows its claim and then gives its frame or starves. -/
theorem tickRunsRings : Obligations.TickRunsRings := by
  intro s t hs hwf ht
  obtain rfl : s.sampleTick = t := Host.Outcome.next.inj ((exec_sampleTick hs).symm.trans ht)
  refine ⟨fun p => ?_, ?_⟩
  · intro claimed r
    have hclaimed : s.sampleTick.claimed p = true ↔ claimed := by
      rw [State.claimed_iff, s.sampleTick_ticked.unit]
    have hring : s.sampleTick.rings.get p = (r.claim (s.sampleTick.claimed p)).given := s.sampleTick_ring p
    have hcount : s.sampleTick.counter (20 + p.val) =
        min (s.counter (20 + p.val) + (r.claim (s.sampleTick.claimed p)).starved.toNat) 65535 :=
      State.sampleTick_underrun hwf p
    have hmax : s.counter (20 + p.val) ≤ 65535 := Nat.le_of_lt_succ (s.tables.stats.read _).isLt
    have hkept : claimed → r.state ≠ .unrouted → r.claim (s.sampleTick.claimed p) = r := fun hyes hstate => by
      rw [hclaimed.mpr hyes, Ring.claim_kept hstate]
    have fed : ∀ {r'}, r.claim (s.sampleTick.claimed p) = r' → r'.starved = false →
        s.sampleTick.rings.get p = r'.given ∧ s.sampleTick.counter (20 + p.val) = s.counter (20 + p.val) := by
      rintro _ rfl hfed
      rw [hfed] at hcount
      exact ⟨hring, hcount.trans (Nat.min_eq_left hmax)⟩
    refine ⟨fun hno => ?_, fun hyes hstate => ?_, fun hyes hstate => ?_, fun f rest hyes hr => ?_, fun hyes hr => ?_⟩
    · exact fed (by rw [Bool.eq_false_iff.mpr (mt hclaimed.mp hno), Ring.claim_unclaimed]) rfl
    · exact fed (by rw [hclaimed.mpr hyes, Ring.claim_new hstate]) rfl
    · have hstill : r.state ≠ .playing := by rw [hstate]; decide
      rw [← Ring.given_quiet hstill]
      exact fed (hkept hyes (by rw [hstate]; decide)) (Ring.starved_false hstill)
    · have hstate : r.state = .playing := congrArg Ring.state hr
      exact fed ((hkept hyes (by rw [hstate]; decide)).trans hr) rfl
    · have hstate : r.state = .playing := congrArg Ring.state hr
      rw [(hkept hyes (by rw [hstate]; decide)).trans hr] at hring hcount
      exact ⟨hring, hcount⟩
  · have hnotices : s.sampleTick.notices = (progs.foldl State.giveFrame s.sourced).notices := by
      rw [State.sampleTick_eq, State.advanceVoices_notices, State.mix_notices, State.giveFrames_eq_foldl]
    rw [hnotices]
    refine State.foldl_giveFrame_notices (by decide) (fun p _ => ?_) rfl rfl
    rw [State.sourced_ring, State.sampleTick_ring, Ring.claim_starved_iff]

end Sys2Proof.Machine
end

section
/-! The outlets and the voices at a sample tick: source, gain, duck and playback (O51). -/

namespace Sys2Proof.Machine

open Sys2Proof

/-- What an outlet waits for once it has compared its ROUTE word with its source (R147). -/
def OutletState.awaits (x : OutletState) (route : Option Prog) : Option (Option Prog) :=
  if x.pending = none ∧ route = x.current then none else some route

/-- An outlet with its ROUTE word compared and its gain moved, before it takes a waiting source (R147, R148). -/
def State.ramped (s : State) (o : Outlet) (x : OutletState) : OutletState :=
  (x.settleSource (routeProg (s.tables.route.read (outletRoute o)))).moveGain (targetGain s.tables.mixer o)
    (s.tables.mixer.nat 31)

/-- Whether a voice in use ducks an outlet (R149). -/
def State.ducked (s : State) (o : Outlet) : Prop :=
  ∃ v z, s.chimes.voices.get v = some z ∧ (chimeDesc s.tables.chimes z.chime).duck = true ∧
    (chimeDesc s.tables.chimes z.chime).names o = true

section Outlets

variable {s : State} {o : Outlet} {x : OutletState} {source : Option Prog}

/-! The source and the gain (R147, R148) -/

theorem outletRoute_eq (o : Outlet) : outletRoute o = 2 + outletIndex o := by cases o <;> rfl

theorem OutletState.awaits_some {route : Option Prog} (h : x.awaits route ≠ none) : x.awaits route = some route :=
  if_neg fun hsame => h (if_pos hsame)

theorem OutletState.settleSource_eq (x : OutletState) (route : Option Prog) :
    x.settleSource route = { x with pending := x.awaits route } := by
  unfold OutletState.settleSource OutletState.awaits
  cases hp : x.pending with
  | some w => simp
  | none =>
    by_cases hr : route = x.current
    · simp [hr, ← hp]
    · simp [hr]

theorem OutletState.takeSource_none (h : x.pending = none) : x.takeSource = x := by
  rw [OutletState.takeSource, h]

theorem OutletState.takeSource_silent (h : x.pending = some source) (hgain : x.gain = 0) :
    x.takeSource = { x with current := source, pending := none } := by
  rw [OutletState.takeSource, h]
  exact if_pos hgain

theorem OutletState.takeSource_sounding (hgain : x.gain ≠ 0) : x.takeSource = x := by
  unfold OutletState.takeSource
  split
  · exact if_neg hgain
  · rfl

theorem State.ramped_eq (s : State) (o : Outlet) (x : OutletState) : s.ramped o x =
    let waits := x.awaits (routeProg (s.tables.route.read (2 + outletIndex o)))
    { x with
      pending := waits
      gain := approach x.gain (if waits = none then targetGain s.tables.mixer o else 0) (s.tables.mixer.nat 31)
        (s.tables.mixer.nat 31) } := by
  rw [State.ramped, OutletState.settleSource_eq, OutletState.moveGain, outletRoute_eq]
  cases x.awaits (routeProg (s.tables.route.read (2 + outletIndex o))) <;> rfl

theorem State.tickOutlet_eq (s : State) (o : Outlet) (x : OutletState) : s.tickOutlet o x =
    (s.ramped o x).takeSource.moveDuck (s.duckTarget o) (s.tables.mixer.nat 32) (s.tables.mixer.nat 33) := rfl

theorem State.tickOutlet_gain (s : State) (o : Outlet) (x : OutletState) :
    (s.tickOutlet o x).gain = (s.ramped o x).gain := (OutletState.takeSource_levels _).1

theorem State.tickOutlet_duck (s : State) (o : Outlet) (x : OutletState) : (s.tickOutlet o x).duck =
    approach x.duck (s.duckTarget o) (s.tables.mixer.nat 33) (s.tables.mixer.nat 32) := by
  rw [State.tickOutlet_eq, OutletState.moveDuck, (OutletState.takeSource_levels _).2, State.ramped_eq]

theorem State.sampleTick_gain (s : State) (o : Outlet) :
    (s.sampleTick.outlets.get o).gain = (s.settleEnds.ramped o (s.outlets.get o)).gain := by
  rw [State.sampleTick_outlet, State.tickOutlet_gain]

theorem State.sampleTick_duck (s : State) (o : Outlet) : (s.sampleTick.outlets.get o).duck =
    approach (s.outlets.get o).duck (s.settleEnds.duckTarget o) (s.tables.mixer.nat 33) (s.tables.mixer.nat 32) := by
  rw [State.sampleTick_outlet, State.tickOutlet_duck, State.settleEnds_tables]

theorem State.sampleTick_source (s : State) (o : Outlet) :
    (s.sampleTick.outlets.get o).current = (s.settleEnds.ramped o (s.outlets.get o)).takeSource.current ∧
      (s.sampleTick.outlets.get o).pending = (s.settleEnds.ramped o (s.outlets.get o)).takeSource.pending := by
  rw [State.sampleTick_outlet]
  exact ⟨rfl, rfl⟩

/-! The duck target (R149) -/

theorem voiceDucks_iff {chimes : Table} {voice : Option Voice} : voiceDucks chimes o voice = true ↔
    ∃ z, voice = some z ∧ (chimeDesc chimes z.chime).duck = true ∧ (chimeDesc chimes z.chime).names o = true := by
  cases voice with
  | none => exact ⟨nofun, nofun⟩
  | some z =>
    rw [voiceDucks, Bool.and_eq_true]
    exact ⟨fun h => ⟨z, rfl, h⟩, fun ⟨_, hz, h⟩ => Option.some.inj hz ▸ h⟩

theorem State.ducked_iff : s.ducked o ↔ [s.chimes.voices.v0, s.chimes.voices.v1, s.chimes.voices.v2].any
    (voiceDucks s.tables.chimes o) = true := by
  simp only [List.any_cons, List.any_nil, Bool.or_false, Bool.or_eq_true, voiceDucks_iff]
  constructor
  · rintro ⟨v, hv⟩
    cases v with
    | v0 => exact .inl hv
    | v1 => exact .inr (.inl hv)
    | v2 => exact .inr (.inr hv)
  · rintro (h | h | h)
    exacts [⟨.v0, h⟩, ⟨.v1, h⟩, ⟨.v2, h⟩]

theorem State.duckTarget_eq {c : Nat} (hducked : s.ducked o → c = s.tables.mixer.nat 27)
    (hfree : ¬ s.ducked o → c = 32768) : s.duckTarget o =
      min 32768 (min c (if s.rear.reverse = .on then s.tables.mixer.nat (28 + outletIndex o) else 32768)) := by
  unfold State.duckTarget
  by_cases h : s.ducked o
  · rw [if_pos (State.ducked_iff.mp h), hducked h]
    rfl
  · rw [if_neg (mt State.ducked_iff.mpr h), hfree h]
    rfl

end Outlets

/-! The voices (R150, R154, R155) -/

section Voices

theorem ChimeEngine.endVoice_eq (c : ChimeEngine) (chimes : Table) (v : VoiceId) : c.endVoice chimes v =
    if ((c.voices.get v).bind fun z => z.due) = none then c
    else ChimeEngine.takeCandidate { c with voices := c.voices.set v none } chimes v := by
  unfold ChimeEngine.endVoice ChimeEngine.dueAt
  cases (c.voices.get v).bind fun z => z.due <;> rfl

/-- The ends that are due come about voice by voice (log 8). -/
theorem ChimeEngine.settleEnds_eq_foldl (c : ChimeEngine) (chimes : Table) :
    [VoiceId.v0, .v1, .v2].foldl (fun (e : ChimeEngine) v =>
      if ((e.voices.get v).bind fun z => z.due) = none then e
      else ChimeEngine.takeCandidate { e with voices := e.voices.set v none } chimes v) c = c.settleEnds chimes := by
  simp only [ChimeEngine.settleEnds, ChimeEngine.endVoice_eq, List.foldl_cons, List.foldl_nil]

/-- A tick moves each voice by one sample; nothing else of the engine changes once the ends are settled. -/
theorem State.sampleTick_chimes (s : State) : s.sampleTick.chimes =
    let ended := s.chimes.settleEnds s.tables.chimes
    { ended with
      voices := ended.voices.map fun x => x.map fun z => z.tick s.tables.chimes (s.tables.mixer.nat 34) } := by
  have htables := (s.sourced.giveFrames_ticked.trans (State.mix_ticked _ s.sourced.tickFrames)).tables
  rw [State.sampleTick_eq, State.advanceVoices, htables, State.mix_chimes, State.giveFrames_chimes]
  rfl

end Voices

/-- Settles O51: the ends first, then each outlet by its three stages and each voice by one sample. -/
theorem tickMovesOutlets : Obligations.TickMovesOutlets := by
  intro s hs
  refine ⟨s.sampleTick, exec_sampleTick hs, s.sampleTick_ticked, ?_, fun o => ?_⟩
  · intro ended
    have hended : ended = s.chimes.settleEnds s.tables.chimes := ChimeEngine.settleEnds_eq_foldl ..
    rw [hended, State.sampleTick_chimes]
    exact ⟨rfl, rfl, fun v => PerVoice.get_map _ _ v⟩
  intro x y k word m route wait target voices ducked
  have hk : k = outletIndex o := by cases o <;> rfl
  have hramped : s.settleEnds.ramped o x =
      { x with pending := wait, gain := approach x.gain target (m 31) (m 31) } := by
    rw [State.ramped_eq, ← hk]
    rfl
  have hgain : y.gain = approach x.gain target (m 31) (m 31) := (s.sampleTick_gain o).trans (by rw [hramped])
  obtain ⟨hcurrent, hpending⟩ := s.sampleTick_source o
  rw [hramped] at hcurrent hpending
  refine ⟨fun h => hgain.trans (approach_up h _ _), fun h => hgain.trans (approach_down h _ _), fun hstays => ?_,
    fun hwaits hsilent => ?_, fun hwaits hsounds => ?_, fun c d hducked hfree hd => ?_⟩
  · rw [OutletState.takeSource_none hstays] at hcurrent hpending
    exact ⟨hcurrent, hpending.trans hstays⟩
  · rw [OutletState.takeSource_silent (OutletState.awaits_some hwaits) (hgain.symm.trans hsilent)] at hcurrent hpending
    exact ⟨hcurrent, hpending⟩
  · rw [OutletState.takeSource_sounding (hgain ▸ hsounds)] at hcurrent hpending
    exact ⟨hcurrent, hpending.trans (OutletState.awaits_some hwaits)⟩
  · have htarget : s.settleEnds.duckTarget o = d := by
      rw [State.duckTarget_eq (s := s.settleEnds) (o := o) hducked hfree, hd, hk]
      rfl
    rw [s.sampleTick_duck o, htarget]
    exact ⟨fun h => approach_up h _ _, fun h => approach_down h _ _⟩

end Sys2Proof.Machine
end

section
/-! The output frames of a sample tick, their ranges and the sound pins (O53). -/

namespace Sys2Proof.Machine

open Sys2Proof

/-! The arithmetic of R151: scaling and saturation -/

section Arithmetic

variable {x b gain : Int}

theorem scaled_eq_fdiv (x : Int) : scaled x = (x + 16384).fdiv 32768 :=
  (Int.fdiv_eq_ediv_of_nonneg _ (by decide)).symm

theorem abs_scaled_le (h : |x| ≤ 32768 * b) : |scaled x| ≤ b := by
  rw [abs_le] at h ⊢
  unfold scaled
  omega

theorem abs_mul_gain_le (hx : |x| ≤ b) (hlow : 0 ≤ gain) (hhigh : gain ≤ 32768) : |x * gain| ≤ 32768 * b := by
  rw [abs_mul, abs_of_nonneg hlow, mul_comm]
  exact mul_le_mul hhigh hx (abs_nonneg x) (by decide)

theorem abs_toInt_le (w : Word) : |w.toInt| ≤ 32768 := by
  have hlow : -(2 ^ 15) ≤ w.toInt := BitVec.le_toInt w
  have hhigh : w.toInt < 2 ^ 15 := BitVec.toInt_lt
  rw [abs_le]
  omega

theorem saturate_eq (x : Int) : saturate x = max (-32768) (min 32767 x) := by
  unfold saturate
  split <;> omega

theorem saturate_toInt (x : Int) : (BitVec.ofInt 16 (saturate x)).toInt = max (-32768) (min 32767 x) := by
  rw [saturate_eq]
  exact BitVec.toInt_ofInt_eq_self (by decide) (by omega) (by omega)

theorem clipCount_eq (l r : Int) : clipCount l r =
    (if l < -32768 ∨ 32767 < l then 1 else 0) + (if r < -32768 ∨ 32767 < r then 1 else 0) := by
  have clipped : ∀ x, (if saturate x = x then 0 else 1) = if x < -32768 ∨ 32767 < x then 1 else 0 := by
    intro x
    rw [saturate_eq]
    split <;> split <;> omega
  rw [clipCount, clipped, clipped]

end Arithmetic

/-! The programme gain, a voice's contribution and their sum (R151, log 27) -/

section Sums

variable {x : OutletState} {chimes waves : Table} {o : Outlet} {z : Voice} {gain : Nat}

theorem programmeGain_nonneg (x : OutletState) : 0 ≤ programmeGain x := by
  have hproduct : 0 ≤ (x.gain : Int) * x.duck := by positivity
  unfold programmeGain scaled
  omega

theorem programmeGain_le (h : x.duck ≤ 32768) : programmeGain x ≤ x.gain := by
  have hgain : |(x.gain : Int)| ≤ x.gain := (Nat.abs_cast _).le
  exact (le_abs_self _).trans (abs_scaled_le (abs_mul_gain_le hgain x.duck.cast_nonneg (by exact_mod_cast h)))

theorem voiceTerm_unnamed (h : (chimeDesc chimes z.chime).names o = false) (waves : Table) (gain : Nat) :
    voiceTerm chimes waves o gain (some z) = 0 := if_neg (by rw [h]; decide)

theorem voiceTerm_named (h : (chimeDesc chimes z.chime).names o = true) (waves : Table) (gain : Nat) :
    voiceTerm chimes waves o gain (some z) = scaled (waves.int (z.address chimes) * z.level) * gain := if_pos h

theorem abs_voiceTerm_le (hgain : gain ≤ 32768) {voice : Option Voice} (hlevel : ∀ z, voice = some z → z.level ≤ 32768) :
    |voiceTerm chimes waves o gain voice| ≤ 32768 * 32768 := by
  cases voice with
  | none => exact (by decide : |(0 : Int)| ≤ 32768 * 32768)
  | some z =>
    cases hnames : (chimeDesc chimes z.chime).names o with
    | false => rw [voiceTerm_unnamed hnames]; decide
    | true =>
      rw [voiceTerm_named hnames]
      have hsample := abs_mul_gain_le (abs_toInt_le (waves.read (z.address chimes))) z.level.cast_nonneg
        (by exact_mod_cast hlevel z rfl)
      exact abs_mul_gain_le (abs_scaled_le hsample) gain.cast_nonneg (by exact_mod_cast hgain)

theorem abs_programmeTerm_le (h : x.sound = true) (sample : Word) :
    |sample.toInt * programmeGain x| ≤ 32768 * 32768 := by
  obtain ⟨hgain, hduck⟩ := x.sound_iff.mp h
  exact abs_mul_gain_le (abs_toInt_le sample) (programmeGain_nonneg x)
    ((programmeGain_le hduck).trans (by exact_mod_cast hgain))

end Sums

/-! The source frame of an outlet, and its two sums -/

section Frames

variable {s : State} {x : OutletState} {p : Prog}

/-- A ring gives its oldest frame where it is PLAYING and its programme is claimed. -/
theorem Ring.claim_frame (r : Ring) (claimed : Bool) : (r.claim claimed).frame =
    if r.state = .playing ∧ claimed = true then r.frames.headD Stereo.silence else Stereo.silence := by
  cases claimed with
  | false => exact (if_neg fun h => nomatch h.2).symm
  | true =>
    by_cases hnew : r.state = .unrouted
    · rw [Ring.claim_new hnew, if_neg (by rw [hnew]; decide)]
      rfl
    · rw [Ring.claim_kept hnew, Ring.frame]
      simp only [and_true]

theorem State.tickFrames_get (s : State) (p : Prog) : s.tickFrames.get p = (s.rings.get p).frame := by
  fin_cases p <;> rfl

theorem sourceFrame_none (frames : Quad Stereo) (h : x.current = none) : sourceFrame frames x = Stereo.silence := by
  rw [sourceFrame, h]

/-- The source of an outlet is claimed in MEDIA, so its frame is that of its PLAYING ring. -/
theorem State.sampleTick_sourceFrame (o : Outlet) (h : (s.sampleTick.outlets.get o).current = some p) :
    sourceFrame s.sourced.tickFrames (s.sampleTick.outlets.get o) =
      if (s.rings.get p).state = .playing ∧ s.unit.service = .media then (s.rings.get p).frames.headD Stereo.silence
      else Stereo.silence := by
  have hclaimed : s.sampleTick.claimed p = true ↔ s.unit.service = .media := by
    rw [State.claimed_iff, s.sampleTick_ticked.unit, and_iff_left ⟨o, .inl h⟩]
  rw [sourceFrame, h]
  simp only [State.tickFrames_get, State.sourced_ring, Ring.claim_frame, hclaimed]

theorem State.sampleTick_sums (s : State) (o : Outlet) :
    s.sourced.giveFrames.outletSums s.sourced.tickFrames o =
      let y := s.sampleTick.outlets.get o
      let f := sourceFrame s.sourced.tickFrames y
      (scaled (channelSum y f.left (s.settleEnds.voiceTerms o)),
        scaled (channelSum y f.right (s.settleEnds.voiceTerms o))) := by
  have hvoices : s.sourced.giveFrames.voiceTerms o = s.settleEnds.voiceTerms o := by
    rw [State.voiceTerms, s.sourced.giveFrames_ticked.tables, State.giveFrames_chimes]
    rfl
  rw [State.outletSums, hvoices, State.giveFrames_outlets, State.sourced, State.tickSources_outlet,
    State.sampleTick_outlet]
  rfl

end Frames

/-! The sound pins (R150) -/

section Pins

variable {s : State}

theorem State.soundPins_eq (s : State) :
    let o := s.outlets
    let clock := if s.held = none then some 48000 else none
    s.soundPins = ⟨clock, clock, [o.zoneA.out.left, o.zoneA.out.right], [o.zoneB.out.left, o.zoneB.out.right],
      [o.cabin.out.left, o.cabin.out.right]⟩ := by
  unfold State.soundPins
  cases s.held <;> rfl

theorem exec_resetRelease_held {k : ResetKind} (h : s.held = some k) (stn : BitVec 4) (autocam : Bool) :
    exec (.resetRelease stn autocam) s = .next (s.released k stn autocam) := by
  change execResetRelease stn autocam s = _
  rw [execResetRelease, h]

end Pins

/-- Settles O53: the two sums of each outlet and their saturation, their ranges, and the frame on the pins. -/
theorem tickMixesWithinRange : Obligations.TickMixesWithinRange := by
  refine ⟨fun s t hs hwf ht o => ?_, fun chimes waves o gain => ⟨rfl, fun z => ⟨fun h => voiceTerm_unnamed h waves gain,
    fun h => ?_⟩⟩, fun s => ⟨s.soundPins_eq, fun hheld stn autocam => ?_⟩, fun x hx => ?_,
    fun x sample chimes waves o gain u v w hx hgain hlevel => ?_⟩
  · obtain rfl : s.sampleTick = t := Host.Outcome.next.inj ((exec_sampleTick hs).symm.trans ht)
    intro y k frame voices term sum g left right
    have hframe : sourceFrame s.sourced.tickFrames y = frame := by
      cases hcurrent : y.current with
      | none => rw [sourceFrame_none _ hcurrent]; simp only [frame, hcurrent]
      | some p => rw [State.sampleTick_sourceFrame o hcurrent]; simp only [frame, hcurrent]
    have hterms : s.settleEnds.voiceTerms o = sum := by cases o <;> rfl
    have hgain : programmeGain y = g := scaled_eq_fdiv _
    have hsums : s.sourced.giveFrames.outletSums s.sourced.tickFrames o = (left, right) := by
      simp only [State.sampleTick_sums, channelSum, scaled_eq_fdiv, hterms, hgain, hframe, y, left, right]
    have hout : y.out = outputFrame (left, right) := by
      rw [← hsums]
      exact congrArg OutletState.out (s.sampleTick_outlet o)
    have hindex : 24 + k = cntClip o := by cases o <;> rfl
    refine ⟨?_, ?_, ?_⟩
    · rw [hout]; exact saturate_toInt left
    · rw [hout]; exact saturate_toInt right
    · rw [hindex, State.sampleTick_clip hwf, hsums, clipCount_eq, Nat.add_assoc]
  · rw [voiceTerm_named h, scaled_eq_fdiv]
  · obtain ⟨k, hk⟩ := Option.ne_none_iff_exists'.mp hheld
    exact ⟨_, exec_resetRelease_held hk stn autocam, State.soundPins_eq _⟩
  · exact ⟨programmeGain_nonneg x, programmeGain_le (x.sound_iff.mp hx).2⟩
  · have hsource := abs_le.mp (abs_programmeTerm_le hx sample)
    have hvoice : ∀ {voice}, (∀ z, voice = some z → z.level ≤ 32768) →
        -(32768 * 32768) ≤ voiceTerm chimes waves o gain voice ∧ voiceTerm chimes waves o gain voice ≤ 32768 * 32768 :=
      fun h => abs_le.mp (abs_voiceTerm_le hgain h)
    have hu := hvoice fun z h => hlevel z (.inl h)
    have hv := hvoice fun z h => hlevel z (.inr (.inl h))
    have hw := hvoice fun z h => hlevel z (.inr (.inr h))
    simp only [channelSum]
    omega

end Sys2Proof.Machine
end

section
/-! What the operations of the Chime Engine do: its voices, the candidate of a FREE voice, the victim of a preemption,
the pending queue, and the settlement of a request (O31, O32, O34). -/

namespace Sys2Proof.Machine

open Sys2Proof

theorem voiceId_mem (v : VoiceId) : v ∈ [VoiceId.v0, .v1, .v2] := by cases v <;> decide

section Engine

variable {c : ChimeEngine} {chimes : Table} {v : VoiceId} {n : Nat}

/-! The descriptor (R152, Table 10-1) -/

/-- A descriptor that a request can sound: its number is one of the 32 and it is not empty (R156 step 1). -/
def Soundable (chimes : Table) (n : Nat) : Prop :=
  n < 32 ∧ ¬ ((chimeDesc chimes n).head = 0 ∧ (chimeDesc chimes n).loop = 0)

theorem not_soundable_iff : ¬ Soundable chimes n ↔ (Config.chimeCount ≤ n || chimeEmpty chimes n) = true := by
  rw [Soundable, not_and_or, not_not, Nat.not_lt, Bool.or_eq_true, chimeEmpty, decide_eq_true_iff, decide_eq_true_iff]
  rfl

theorem chimeDesc_names (chimes : Table) (n : Nat) :
    ((chimeDesc chimes n).names .zoneA = true ↔ chimes.nat (8 * n + 6) % 2 = 1) ∧
    ((chimeDesc chimes n).names .zoneB = true ↔ chimes.nat (8 * n + 6) / 2 % 2 = 1) ∧
    ((chimeDesc chimes n).names .cabin = true ↔ chimes.nat (8 * n + 6) / 4 % 2 = 1) := by
  simp only [ChimeDesc.names, chimeDesc, Nat.testBit_eq_decide_div_mod_eq, decide_eq_true_eq, Nat.reducePow]
  omega

theorem chimeDesc_flags (chimes : Table) (n : Nat) :
    ((chimeDesc chimes n).retain = true ↔ chimes.nat (8 * n + 7) % 2 = 1) ∧
    ((chimeDesc chimes n).duck = true ↔ chimes.nat (8 * n + 7) / 2 % 2 = 1) := by
  simp only [chimeDesc, Nat.testBit_eq_decide_div_mod_eq, decide_eq_true_eq, Nat.reducePow, Nat.div_one, and_self]

/-! Where a chime is and which voice is FREE -/

theorem ChimeEngine.voiceOf_some (h : c.voiceOf n = some v) : ∃ x, c.voices.get v = some x ∧ x.chime = n := by
  have hv := List.find?_some h
  cases hx : c.voices.get v with
  | none => simp [hx] at hv
  | some x => exact ⟨x, rfl, by simpa [hx] using hv⟩

theorem ChimeEngine.voiceOf_none_iff : c.voiceOf n = none ↔ ∀ v x, c.voices.get v = some x → x.chime ≠ n := by
  rw [ChimeEngine.voiceOf, List.find?_eq_none]
  constructor
  · intro h v x hx
    simpa [hx] using h v (voiceId_mem v)
  · intro h v _
    cases hx : c.voices.get v with
    | none => simp
    | some x => simpa using h v x hx

/-- The one voice a chime is on is the voice found. -/
theorem ChimeEngine.voiceOf_eq {x : Voice} (hv : c.voices.get v = some x) (hn : x.chime = n)
    (honly : ∀ w y, c.voices.get w = some y → y.chime = n → w = v) : c.voiceOf n = some v := by
  cases h : c.voiceOf n with
  | none => exact absurd hn (ChimeEngine.voiceOf_none_iff.mp h v x hv)
  | some w =>
    obtain ⟨y, hy, hyn⟩ := ChimeEngine.voiceOf_some h
    rw [honly w y hy hyn]

theorem ChimeEngine.waits_iff : c.waits n = true ↔ n ∈ c.queue ∨ ∃ x ∈ c.suspended, x.chime = n := by
  simp [ChimeEngine.waits]

theorem ChimeEngine.isFree_iff : c.isFree v = true ↔ c.voices.get v = none := Option.isNone_iff_eq_none

theorem ChimeEngine.lowestFree_none_iff : c.lowestFree = none ↔ ∀ v, c.voices.get v ≠ none := by
  simp only [ChimeEngine.lowestFree, List.find?_eq_none, ChimeEngine.isFree_iff]
  exact ⟨fun h v => h v (voiceId_mem v), fun h v _ => h v⟩

/-- The free voice taken is the lowest-numbered one (R156 step 5). -/
theorem ChimeEngine.lowestFree_eq (c : ChimeEngine) :
    (c.lowestFree = some .v0 ↔ c.voices.get .v0 = none) ∧
    (c.lowestFree = some .v1 ↔ c.voices.get .v0 ≠ none ∧ c.voices.get .v1 = none) ∧
    (c.lowestFree = some .v2 ↔ c.voices.get .v0 ≠ none ∧ c.voices.get .v1 ≠ none ∧ c.voices.get .v2 = none) := by
  simp only [ChimeEngine.lowestFree, ChimeEngine.isFree, List.find?_cons, List.find?_nil]
  cases c.voices.get .v0 <;> cases c.voices.get .v1 <;> cases c.voices.get .v2 <;> simp

/-! The best of the voices by an order: the victim (R157) and the earliest-started voice (R160) -/

/-- One voice is weighed against the best so far; `skip` says which voices are left out. -/
def ChimeEngine.weigh (c : ChimeEngine) (skip : Voice → Bool) (before : Voice → Voice → Prop) [DecidableRel before]
    (best : Option (VoiceId × Voice)) (v : VoiceId) : Option (VoiceId × Voice) :=
  match c.voices.get v with
  | none => best
  | some x =>
    if skip x then best
    else match best with
      | none => some (v, x)
      | some (_, y) => if before x y then some (v, x) else best

/-- What weighing the voices of a list leaves: one of those not left out, such that none of them comes before it. -/
structure ChimeEngine.Best (c : ChimeEngine) (skip : Voice → Bool) (before : Voice → Voice → Prop) (l : List VoiceId)
    (best : Option (VoiceId × Voice)) : Prop where
  found : ∀ v x, best = some (v, x) → c.voices.get v = some x ∧ skip x = false
  least : ∀ v x, best = some (v, x) → ∀ w ∈ l, ∀ y, c.voices.get w = some y → skip y = false → ¬ before y x
  none  : best = none → ∀ w ∈ l, ∀ y, c.voices.get w = some y → skip y = true

/-- A voice that is left out, or FREE, does not change which is the best. -/
theorem ChimeEngine.Best.append_skipped {skip : Voice → Bool} {before : Voice → Voice → Prop} {l : List VoiceId}
    {best : Option (VoiceId × Voice)} (h : c.Best skip before l best)
    (hv : ∀ y, c.voices.get v = some y → skip y = true) : c.Best skip before (l ++ [v]) best where
  found := h.found
  least w x hb u hu y hy hs := by
    rcases List.mem_append.mp hu with hu | hu
    · exact h.least w x hb u hu y hy hs
    · rw [List.mem_singleton.mp hu] at hy
      simp [hv y hy] at hs
  none hb u hu y hy := by
    rcases List.mem_append.mp hu with hu | hu
    · exact h.none hb u hu y hy
    · rw [List.mem_singleton.mp hu] at hy
      exact hv y hy

/-- A best voice that stands against the voices before and the new one. -/
theorem ChimeEngine.Best.append_found {skip : Voice → Bool} {before : Voice → Voice → Prop} {l : List VoiceId}
    {w : VoiceId} {x z : Voice} (hw : c.voices.get w = some x) (hskip : skip x = false)
    (hl : ∀ u ∈ l, ∀ y, c.voices.get u = some y → skip y = false → ¬ before y x)
    (hv : c.voices.get v = some z) (hz : ¬ before z x) : c.Best skip before (l ++ [v]) (some (w, x)) where
  found := by rintro _ _ ⟨⟩; exact ⟨hw, hskip⟩
  least := by
    rintro _ _ ⟨⟩ u hu y hy hs
    rcases List.mem_append.mp hu with hu | hu
    · exact hl u hu y hy hs
    · rw [List.mem_singleton.mp hu, hv] at hy
      exact Option.some.inj hy ▸ hz
  none := nofun

/-- Weighing the voices of a list finds the best of them by an order whose complement is transitive. -/
theorem ChimeEngine.weigh_best (c : ChimeEngine) (skip : Voice → Bool) (before : Voice → Voice → Prop)
    [DecidableRel before] (hasymm : ∀ x y, before x y → ¬ before y x)
    (htrans : ∀ x y z, ¬ before y x → ¬ before z y → ¬ before z x) (l : List VoiceId) :
    c.Best skip before l (l.foldl (c.weigh skip before) none) := by
  induction l using List.reverseRecOn with
  | nil => exact ⟨nofun, nofun, fun _ => nofun⟩
  | append_singleton l v ih =>
    rw [List.foldl_append, List.foldl_cons, List.foldl_nil]
    generalize l.foldl (c.weigh skip before) none = best at ih
    unfold ChimeEngine.weigh
    split
    next hv => exact ih.append_skipped fun y hy => by simp [hv] at hy
    next x hv =>
      split
      next hs => exact ih.append_skipped fun y hy => Option.some.inj (hv.symm.trans hy) ▸ hs
      next hs =>
        have hs := Bool.eq_false_of_not_eq_true hs
        split
        next =>
          refine .append_found hv hs (fun u hu y hy hskip => ?_) hv fun h => hasymm x x h h
          simp [ih.none rfl u hu y hy] at hskip
        next w y =>
          obtain ⟨hw, hy⟩ := ih.found w y rfl
          have hleast := ih.least w y rfl
          split
          next hxy =>
            exact .append_found hv hs (fun u hu z hz hskip => htrans x y z (hasymm x y hxy) (hleast u hu z hz hskip)) hv
              fun h => hasymm x x h h
          next hxy => exact .append_found hw hy hleast hv hxy

/-- A lower priority comes before a higher one, and of one priority the later start (R157). -/
theorem victimBefore_iff (x y : Voice) : victimBefore chimes x y = true ↔ prioOf chimes x.chime < prioOf chimes y.chime ∨
    prioOf chimes x.chime = prioOf chimes y.chime ∧ y.order < x.order := by
  simp [victimBefore]

theorem ChimeEngine.victim_best (c : ChimeEngine) (chimes : Table) :
    c.Best (fun x => x.releasing) (fun x y => victimBefore chimes x y = true) [.v0, .v1, .v2] (c.victim chimes) := by
  refine c.weigh_best _ _ (fun x y h => ?_) (fun x y z h k => ?_) [.v0, .v1, .v2]
  · rw [victimBefore_iff] at h ⊢; omega
  · rw [victimBefore_iff] at h k ⊢; omega

/-- The victim is the latest-started of the SOUNDING voices of the lowest priority (R157). -/
theorem ChimeEngine.victim_some {x : Voice} (h : c.victim chimes = some (v, x)) :
    c.voices.get v = some x ∧ x.releasing = false ∧ ∀ w y, c.voices.get w = some y → y.releasing = false →
      prioOf chimes x.chime < prioOf chimes y.chime ∨
        prioOf chimes x.chime = prioOf chimes y.chime ∧ y.order ≤ x.order := by
  obtain ⟨found, least, -⟩ := c.victim_best chimes
  obtain ⟨hv, hx⟩ := found v x h
  refine ⟨hv, hx, fun w y hw hy => ?_⟩
  have := least v x h w (voiceId_mem w) y hw hy
  rw [victimBefore_iff] at this
  omega

theorem ChimeEngine.victim_none_iff : c.victim chimes = none ↔ ∀ w y, c.voices.get w = some y → y.releasing = true := by
  obtain ⟨found, -, hnone⟩ := c.victim_best chimes
  refine ⟨fun h w => hnone h w (voiceId_mem w), fun h => ?_⟩
  rw [Option.eq_none_iff_forall_ne_some]
  rintro ⟨v, x⟩ hv
  obtain ⟨hget, hx⟩ := found v x hv
  simp [h v x hget] at hx

/-! The pending queue (R158) -/

/-- In an ordered queue a chime goes behind its own and higher priorities and ahead of every lower one. -/
theorem insertChime_place {q : List Nat} (h : queueOrdered chimes q = true) (n : Nat) :
    ∃ before after, q = before ++ after ∧ insertChime chimes n q = before ++ n :: after ∧
      (∀ m ∈ before, prioOf chimes n ≤ prioOf chimes m) ∧ ∀ m ∈ after, prioOf chimes m < prioOf chimes n := by
  induction q with
  | nil => exact ⟨[], [], rfl, rfl, nofun, nofun⟩
  | cons m rest ih =>
    obtain ⟨before, after, hq, hins, hb, ha⟩ := ih (queueOrdered_tail h)
    by_cases hm : prioOf chimes n > prioOf chimes m
    · refine ⟨[], m :: rest, rfl, if_pos hm, nofun, fun k hk => ?_⟩
      rcases List.mem_cons.mp hk with rfl | hk
      · exact hm
      · simp only [queueOrdered, Bool.and_eq_true, List.all_eq_true, decide_eq_true_eq] at h
        exact (h.1 k hk).trans_lt hm
    · refine ⟨m :: before, after, by rw [hq, List.cons_append], by rw [insertChime, if_neg hm, hins, List.cons_append],
        fun k hk => ?_, ha⟩
      rcases List.mem_cons.mp hk with rfl | hk
      · exact Nat.not_lt.mp hm
      · exact hb k hk

theorem queueOrdered_insertChime {q : List Nat} (h : queueOrdered chimes q = true) (n : Nat) :
    queueOrdered chimes (insertChime chimes n q) = true := by
  obtain ⟨before, after, hq, hins, hb, ha⟩ := insertChime_place h n
  rw [hq, queueOrdered_append] at h
  obtain ⟨hbefore, hafter, hacross⟩ := h
  have hrest : queueOrdered chimes (n :: after) = true := by
    simp only [queueOrdered, hafter, Bool.and_true, List.all_eq_true, decide_eq_true_eq]
    exact fun m hm => (ha m hm).le
  rw [hins, queueOrdered_append]
  refine ⟨hbefore, hrest, fun x hx y hy => ?_⟩
  rcases List.mem_cons.mp hy with rfl | hy
  · exact hb x hx
  · exact hacross x hx y hy

theorem offerChime_room {q : List Nat} (h : q.length < 8) : offerChime chimes n q = insertChime chimes n q := if_pos h

theorem offerChime_full {kept : List Nat} {low : Nat} (h : (kept ++ [low]).length = 8) :
    offerChime chimes n (kept ++ [low]) =
      if prioOf chimes n > prioOf chimes low then insertChime chimes n kept else kept ++ [low] := by
  rw [offerChime, if_neg (by rw [h]; decide), List.getLast?_concat, List.dropLast_concat]

/-- An offer to the queue ends in one of three ways: the chime joins; it joins where the last was evicted; or it is lost. -/
theorem offerChime_cases (chimes : Table) (n : Nat) (q : List Nat) :
    (q.length < 8 ∧ offerChime chimes n q = insertChime chimes n q) ∨
    (∃ kept low, q = kept ++ [low] ∧ offerChime chimes n q = insertChime chimes n kept) ∨ offerChime chimes n q = q := by
  unfold offerChime
  split
  next h => exact .inl ⟨h, rfl⟩
  next =>
    split
    next => exact .inr (.inr rfl)
    next low hlow =>
      split
      · exact .inr (.inl ⟨q.dropLast, low, (List.dropLast_append_getLast? low hlow).symm, rfl⟩)
      · exact .inr (.inr rfl)

theorem offerChime_ordered {q : List Nat} (h : queueOrdered chimes q = true) (n : Nat) :
    queueOrdered chimes (offerChime chimes n q) = true := by
  rcases offerChime_cases chimes n q with ⟨-, he⟩ | ⟨kept, low, rfl, he⟩ | he
  · exact he ▸ queueOrdered_insertChime h n
  · exact he ▸ queueOrdered_insertChime ((queueOrdered_append ..).mp h).1 n
  · rwa [he]

theorem offerChime_length {q : List Nat} (h : q.length ≤ 8) (n : Nat) : (offerChime chimes n q).length ≤ 8 := by
  rcases offerChime_cases chimes n q with ⟨hroom, he⟩ | ⟨kept, low, rfl, he⟩ | he
  · rw [he, insertChime_length]; exact hroom
  · rw [he, insertChime_length]; simpa using h
  · rwa [he]

/-! The settlement of a request (R156, R157) -/

theorem ChimeEngine.queueOrDrop_retained (h : (chimeDesc chimes n).retain = true) :
    c.queueOrDrop chimes n = { c with queue := offerChime chimes n c.queue } := if_pos h

theorem ChimeEngine.queueOrDrop_dropped (h : ¬ (chimeDesc chimes n).retain = true) : c.queueOrDrop chimes n = c :=
  if_neg h

theorem ChimeEngine.settle_unsoundable (h : ¬ Soundable chimes n) : c.settle chimes n = c :=
  if_pos (not_soundable_iff.mp h)

/-- The settlement of a soundable chime begins with the voice it may be on (R156 step 2). -/
theorem ChimeEngine.settle_soundable (h : Soundable chimes n) : c.settle chimes n = match c.voiceOf n with
    | some v => if c.level ≤ prioOf chimes n then c.startOn chimes v n else c
    | none =>
      if c.waits n then c
      else if prioOf chimes n < c.level then c.queueOrDrop chimes n
      else match c.lowestFree with
        | some v => c.startOn chimes v n
        | none => c.preempt chimes n :=
  if_neg (mt not_soundable_iff.mpr (not_not_intro h))

theorem ChimeEngine.settle_onVoice (h : Soundable chimes n) (hv : c.voiceOf n = some v) :
    c.settle chimes n = if c.level ≤ prioOf chimes n then c.startOn chimes v n else c := by
  simp [ChimeEngine.settle_soundable h, hv]

/-- A chime on no voice that waits already has no further effect (R156 step 3). -/
theorem ChimeEngine.settle_waiting (h : Soundable chimes n) (hv : c.voiceOf n = none) (hw : c.waits n = true) :
    c.settle chimes n = c := by
  simp [ChimeEngine.settle_soundable h, hv, hw]

/-- A chime below the admission level can only wait (R156 step 4). -/
theorem ChimeEngine.settle_below (h : Soundable chimes n) (hv : c.voiceOf n = none) (hw : ¬ c.waits n = true)
    (hp : prioOf chimes n < c.level) : c.settle chimes n = c.queueOrDrop chimes n := by
  simp [ChimeEngine.settle_soundable h, hv, hw, hp]

/-- An admitted chime takes the lowest-numbered FREE voice (R156 step 5). -/
theorem ChimeEngine.settle_free (h : Soundable chimes n) (hv : c.voiceOf n = none) (hw : ¬ c.waits n = true)
    (hp : c.level ≤ prioOf chimes n) (hfree : c.lowestFree = some v) : c.settle chimes n = c.startOn chimes v n := by
  simp [ChimeEngine.settle_soundable h, hv, hw, Nat.not_lt.mpr hp, hfree]

/-- With no FREE voice an admitted chime preempts or waits (R156 steps 6 and 7). -/
theorem ChimeEngine.settle_busy (h : Soundable chimes n) (hv : c.voiceOf n = none) (hw : ¬ c.waits n = true)
    (hp : c.level ≤ prioOf chimes n) (hbusy : c.lowestFree = none) : c.settle chimes n = c.preempt chimes n := by
  simp [ChimeEngine.settle_soundable h, hv, hw, Nat.not_lt.mpr hp, hbusy]

theorem ChimeEngine.preempt_noLower
    (h : ∀ v x, c.voices.get v = some x → x.releasing = false → prioOf chimes n ≤ prioOf chimes x.chime) :
    c.preempt chimes n = c.queueOrDrop chimes n := by
  unfold ChimeEngine.preempt
  split
  · rfl
  next v x hv =>
    obtain ⟨hget, hx, -⟩ := ChimeEngine.victim_some hv
    exact if_pos (h v x hget hx)

theorem ChimeEngine.preempt_lower {x : Voice} (hv : c.victim chimes = some (v, x))
    (hp : prioOf chimes x.chime < prioOf chimes n) : c.preempt chimes n =
      if (chimeDesc chimes x.chime).retain then
        if c.suspended.length < 3 then ChimeEngine.startOn { c with suspended := x.saved :: c.suspended } chimes v n
        else c.queueOrDrop chimes n
      else c.startOn chimes v n := by
  simp only [ChimeEngine.preempt, hv]
  exact if_neg (Nat.not_le.mpr hp)

/-! Candidates of a FREE voice (R159) -/

/-- The first of a list, where it passes a test. -/
theorem head?_filter_some {α : Type} {l : List α} {p : α → Bool} {x : α} (h : l.head?.filter p = some x) :
    l = x :: l.tail ∧ p x = true := by
  obtain ⟨hx, hp⟩ := Option.filter_eq_some_iff.mp h
  exact ⟨(List.cons_head?_tail hx).symm, hp⟩

theorem ChimeEngine.takeCandidate_none
    (hs : ∀ p, c.suspended.head? = some p → ¬ c.level ≤ prioOf chimes p.chime)
    (hq : ∀ n, c.queue.head? = some n → ¬ c.level ≤ prioOf chimes n) : c.takeCandidate chimes v = c := by
  have htop : (c.suspended.head?.filter fun p => decide (c.level ≤ prioOf chimes p.chime)) = none :=
    Option.filter_eq_none_iff.mpr fun p hp => by simpa using hs p hp
  have hhead : (c.queue.head?.filter fun n => decide (c.level ≤ prioOf chimes n)) = none :=
    Option.filter_eq_none_iff.mpr fun n hn => by simpa using hq n hn
  simp only [ChimeEngine.takeCandidate, htop, hhead]

theorem ChimeEngine.takeCandidate_suspended {p : Saved} {rest : List Saved} (hs : c.suspended = p :: rest)
    (hp : c.level ≤ prioOf chimes p.chime)
    (hq : ∀ n, c.queue.head? = some n → c.level ≤ prioOf chimes n → prioOf chimes n ≤ prioOf chimes p.chime) :
    c.takeCandidate chimes v = ChimeEngine.resumeOn { c with suspended := rest } chimes v p := by
  simp only [ChimeEngine.takeCandidate, hs, List.head?_cons, Option.filter_some, hp, decide_true, if_true, List.tail_cons]
  cases hn : c.queue.head? with
  | none => rfl
  | some n =>
    by_cases ha : c.level ≤ prioOf chimes n
    · simp [Option.filter_some, ha, Nat.not_lt.mpr (hq n hn ha)]
    · simp [Option.filter_some, ha]

theorem ChimeEngine.takeCandidate_queued {rest : List Nat} (hq : c.queue = n :: rest) (hn : c.level ≤ prioOf chimes n)
    (hs : ∀ p, c.suspended.head? = some p → c.level ≤ prioOf chimes p.chime → prioOf chimes p.chime < prioOf chimes n) :
    c.takeCandidate chimes v = ChimeEngine.startOn { c with queue := rest } chimes v n := by
  simp only [ChimeEngine.takeCandidate, hq, List.head?_cons, Option.filter_some, hn, decide_true, if_true, List.tail_cons]
  cases hp : c.suspended.head? with
  | none => rfl
  | some p =>
    by_cases ha : c.level ≤ prioOf chimes p.chime
    · simp [Option.filter_some, ha, hs p hp ha]
    · simp [Option.filter_some, ha]

/-- A FREE voice takes the admitted top of the suspend list, the admitted head of the queue, or nothing. -/
theorem ChimeEngine.takeCandidate_cases (c : ChimeEngine) (chimes : Table) (v : VoiceId) :
    c.takeCandidate chimes v = c ∨
    (∃ p rest, c.suspended = p :: rest ∧ c.level ≤ prioOf chimes p.chime ∧
      c.takeCandidate chimes v = ChimeEngine.resumeOn { c with suspended := rest } chimes v p) ∨
    ∃ n rest, c.queue = n :: rest ∧ c.level ≤ prioOf chimes n ∧
      c.takeCandidate chimes v = ChimeEngine.startOn { c with queue := rest } chimes v n := by
  have resumes : ∀ p, (c.suspended.head?.filter fun p => decide (c.level ≤ prioOf chimes p.chime)) = some p →
      c.suspended = p :: c.suspended.tail ∧ c.level ≤ prioOf chimes p.chime :=
    fun p h => (head?_filter_some h).imp_right of_decide_eq_true
  have starts : ∀ n, (c.queue.head?.filter fun n => decide (c.level ≤ prioOf chimes n)) = some n →
      c.queue = n :: c.queue.tail ∧ c.level ≤ prioOf chimes n :=
    fun n h => (head?_filter_some h).imp_right of_decide_eq_true
  simp only [ChimeEngine.takeCandidate]
  split
  next => exact .inl rfl
  next p htop _ => exact .inr (.inl ⟨p, _, (resumes p htop).1, (resumes p htop).2, rfl⟩)
  next n _ hhead => exact .inr (.inr ⟨n, _, (starts n hhead).1, (starts n hhead).2, rfl⟩)
  next p n htop hhead =>
    split
    · exact .inr (.inr ⟨n, _, (starts n hhead).1, (starts n hhead).2, rfl⟩)
    · exact .inr (.inl ⟨p, _, (resumes p htop).1, (resumes p htop).2, rfl⟩)

/-! The ends that are due (R154, R155) -/

theorem ChimeEngine.firstDue_dueAt {e : VoiceEnd} (h : c.firstDue = some (v, e)) : c.dueAt v = some e := by
  unfold ChimeEngine.firstDue at h
  split at h <;> cases h <;> assumption

theorem ChimeEngine.endVoice_due {e : VoiceEnd} (h : c.firstDue = some (v, e)) (chimes : Table) :
    c.endVoice chimes v = (c.freeVoice v).takeCandidate chimes v := by
  rw [ChimeEngine.endVoice, ChimeEngine.firstDue_dueAt h]
  rfl

end Engine

end Sys2Proof.Machine
end

section
/-! A chime request, the places it leads to, a voice's playback and its end (O31 to O34). -/

namespace Sys2Proof.Machine

open Sys2Proof

/-! The two end commands -/

theorem exec_voiceNaturalEnd {s : State} (h : s.held = none) : exec .voiceNaturalEnd s =
    .next (match s.chimes.firstDue with
      | some (v, .natural) => { s with chimes := s.chimes.endVoice s.tables.chimes v }
      | _ => s) :=
  whenLive_live h fun s => match s.chimes.firstDue with
    | some (v, .natural) => { s with chimes := s.chimes.endVoice s.tables.chimes v }
    | _ => s

theorem exec_releaseEnd {s : State} (h : s.held = none) : exec .releaseEnd s =
    .next (match s.chimes.firstDue with
      | some (v, .release) => { s with chimes := s.chimes.endVoice s.tables.chimes v }
      | _ => s) :=
  whenLive_live h fun s => match s.chimes.firstDue with
    | some (v, .release) => { s with chimes := s.chimes.endVoice s.tables.chimes v }
    | _ => s

/-- Settles O34: the end commands by the first end that is due, and the candidates of a FREE voice. -/
theorem freedVoiceTakesCandidate : Obligations.FreedVoiceTakesCandidate := by
  refine ⟨fun s v e hs hdue => ?_, fun s hs hdue => ?_, fun c chimes v => ⟨?_, ?_, ?_⟩⟩
  · have hend := ChimeEngine.endVoice_due hdue s.tables.chimes
    rw [exec_voiceNaturalEnd hs, exec_releaseEnd hs, hdue]
    cases e
    · exact ⟨by rw [if_pos rfl]; exact congrArg (fun t => Host.Outcome.next { s with chimes := t }) hend, rfl⟩
    · exact ⟨rfl, by rw [if_pos rfl]; exact congrArg (fun t => Host.Outcome.next { s with chimes := t }) hend⟩
  · rw [exec_voiceNaturalEnd hs, exec_releaseEnd hs, hdue]
    exact ⟨rfl, rfl⟩
  · exact fun hs hq => ChimeEngine.takeCandidate_none hs hq
  · exact fun p rest hs hp hq => ChimeEngine.takeCandidate_suspended hs hp hq
  · exact fun n rest hq hn hs => ChimeEngine.takeCandidate_queued hq hn hs

/-- Settles O32: the best voice by the order of R157, and the places of R158 in a queue with and without room. -/
theorem victimAndQueueRanking : Obligations.VictimAndQueueRanking := by
  refine ⟨fun c chimes => ⟨fun v x h => ChimeEngine.victim_some h, ChimeEngine.victim_none_iff, c.lowestFree_eq.1,
    c.lowestFree_eq.2.1, c.lowestFree_eq.2.2, ChimeEngine.lowestFree_none_iff⟩, fun chimes n q hq hlen =>
    ⟨offerChime_ordered hq n, offerChime_length hlen n, fun hroom => ?_, fun low kept hfull hlast => ⟨fun hp => ?_,
      fun hp => ?_⟩⟩⟩
  · rw [offerChime_room hroom]
    exact insertChime_place hq n
  · subst hlast
    rw [offerChime_full hfull, if_neg (Nat.not_lt.mpr hp)]
  · subst hlast
    rw [offerChime_full hfull, if_pos hp]
    exact insertChime_place ((queueOrdered_append ..).mp hq).1 n

/-- The CHIME request for a chime that cannot sound (R31). -/
theorem exec_chime_refused {s : State} {r : QueuedRequest} {q : List QueuedRequest} (h : s.takes .chime r q)
    (hn : ¬ Soundable s.tables.chimes (r.arg 0)) : exec .chime s = .next ((s.withQueue q).finish r .value [] none) :=
  (State.exec_takes h).trans (congrArg (fun a => Host.Outcome.next (Answer.finish a r))
    (if_pos (not_soundable_iff.mp hn)))

/-- The CHIME request for one that can: the ends that are due come first (log 8). -/
theorem exec_chime_settled {s : State} {r : QueuedRequest} {q : List QueuedRequest} (h : s.takes .chime r q)
    (hn : Soundable s.tables.chimes (r.arg 0)) :
    exec .chime s = .next (((s.withQueue q).requestChime (r.arg 0)).finish r .done [] none) :=
  (State.exec_takes h).trans (congrArg (fun a => Host.Outcome.next (Answer.finish a r))
    (if_neg (mt not_soundable_iff.mpr (not_not_intro hn))))

/-- Settles O31: R156 step by step, the start of R154, Table 10-1, and the CHIME request. -/
theorem chimeRequestSettles : Obligations.ChimeRequestSettles := by
  refine ⟨fun c chimes n => ?_, fun c chimes v n => rfl, fun chimes n => ?_, fun s r q hr => ?_⟩
  · intro p retained waits soundable queued absent busy t
    have hqueue : t = c.queueOrDrop chimes n → (retained n → t = queued) ∧ (¬ retained n → t = c) := fun ht =>
      ⟨fun hr => ht.trans (ChimeEngine.queueOrDrop_retained hr), fun hr => ht.trans (ChimeEngine.queueOrDrop_dropped hr)⟩
    have hvoice : absent → c.voiceOf n = none := ChimeEngine.voiceOf_none_iff.mpr
    have hwaits : ¬ waits → ¬ c.waits n = true := mt ChimeEngine.waits_iff.mp
    have hfree : busy → c.lowestFree = none := ChimeEngine.lowestFree_none_iff.mpr
    refine ⟨ChimeEngine.settle_unsoundable, fun v x h hv hn honly => ?_,
      fun h ha hw => ChimeEngine.settle_waiting h (hvoice ha) (ChimeEngine.waits_iff.mpr hw),
      fun h ha hw hp => hqueue (ChimeEngine.settle_below h (hvoice ha) (hwaits hw) hp),
      fun v h ha hw hp => ChimeEngine.settle_free h (hvoice ha) (hwaits hw) hp,
      fun h ha hw hp hb hlow => hqueue ?_, fun v x h ha hw hp hb hv hlow => ?_⟩
    · have hsettle := ChimeEngine.settle_onVoice h (ChimeEngine.voiceOf_eq hv hn honly)
      exact ⟨fun hp => hsettle.trans (if_pos hp), fun hp => hsettle.trans (if_neg (Nat.not_le.mpr hp))⟩
    · exact (ChimeEngine.settle_busy h (hvoice ha) (hwaits hw) hp (hfree hb)).trans (ChimeEngine.preempt_noLower hlow)
    · have hsettle := (ChimeEngine.settle_busy h (hvoice ha) (hwaits hw) hp (hfree hb)).trans
        (ChimeEngine.preempt_lower hv hlow)
      refine ⟨fun hr => hsettle.trans (if_neg hr), fun hr hroom => ?_, fun hr hfull => hqueue ?_⟩
      · exact hsettle.trans ((if_pos hr).trans (if_pos hroom))
      · exact hsettle.trans ((if_pos hr).trans (if_neg (Nat.not_lt.mpr hfull)))
  · obtain ⟨hzoneA, hzoneB, hcabin⟩ := chimeDesc_names chimes n
    obtain ⟨hretain, hduck⟩ := chimeDesc_flags chimes n
    exact ⟨rfl, rfl, rfl, fun h => if_pos h, fun h => if_neg h, rfl, rfl, rfl, hzoneA, hzoneB, hcabin, hretain, hduck⟩
  · intro n empty
    refine ⟨fun h => exec_chime_refused hr fun hn => ?_, fun hlt hne => exec_chime_settled hr ⟨hlt, hne⟩⟩
    exact h.elim (Nat.not_le.mpr hn.1) hn.2

end Sys2Proof.Machine
end

section
/-! A voice plays to its end and fades (O33). -/

namespace Sys2Proof.Machine

open Sys2Proof

section Playback

variable {x : Voice} {d : ChimeDesc} {chimes : Table}

/-! One sample (R154) -/

theorem Voice.advance_head (h : x.phase = .head) (hmore : x.offset + 1 < d.head) :
    x.advance d = { x with offset := x.offset + 1 } := by
  simp [Voice.advance, h, hmore]

theorem Voice.advance_enterLoop (h : x.phase = .head) (hlast : d.head ≤ x.offset + 1) (hloop : 0 < d.loop) :
    x.advance d = { x with phase := .loop, offset := 0 } := by
  simp [Voice.advance, h, Nat.not_lt.mpr hlast, hloop]

theorem Voice.advance_headEnds (h : x.phase = .head) (hlast : d.head ≤ x.offset + 1) (hloop : d.loop = 0) :
    x.advance d = { x with offset := x.offset + 1, due := some .natural } := by
  simp [Voice.advance, h, Nat.not_lt.mpr hlast, hloop]

theorem Voice.advance_loop (h : x.phase = .loop) (hmore : x.offset + 1 < d.loop) :
    x.advance d = { x with offset := x.offset + 1 } := by
  simp [Voice.advance, h, hmore]

theorem Voice.advance_unlimited (h : x.phase = .loop) (hlast : d.loop ≤ x.offset + 1) (hloops : x.loops = none) :
    x.advance d = { x with offset := 0 } := by
  simp [Voice.advance, h, Nat.not_lt.mpr hlast, hloops]

theorem Voice.advance_nextPass {k : Nat} (h : x.phase = .loop) (hlast : d.loop ≤ x.offset + 1)
    (hloops : x.loops = some k) (hk : 1 < k) : x.advance d = { x with offset := 0, loops := some (k - 1) } := by
  simp [Voice.advance, h, Nat.not_lt.mpr hlast, hloops, Nat.not_le.mpr hk]

theorem Voice.advance_lastPass (h : x.phase = .loop) (hlast : d.loop ≤ x.offset + 1) (hloops : x.loops = some 1) :
    (x.advance d).due = some .natural := by
  simp [Voice.advance, h, Nat.not_lt.mpr hlast, hloops]

/-- How a voice is released does not bear on the sample it gives. -/
theorem Voice.advance_releasing (x : Voice) (d : ChimeDesc) (b : Bool) :
    Voice.advance { x with releasing := b } d = { x.advance d with releasing := b } := by
  simp only [Voice.advance]
  repeat' split
  all_goals rfl

/-! The release (R155) -/

theorem Voice.tick_sounding (h : x.releasing = false) (fall : Nat) :
    x.tick chimes fall = x.advance (chimeDesc chimes x.chime) :=
  Voice.fade_sounding ((x.advance_keeps _).2.1.trans h) fall

/-- A fading voice keeps its place; its release ends at level 0 unless another end is due already. -/
theorem Voice.fade_releasing (h : x.releasing = true) (fall : Nat) : x.fade fall = { x with
    level := x.level - fall
    due := if x.level - fall = 0 ∧ x.due = none then some .release else x.due } := by
  simp only [Voice.fade, h, Bool.not_true, Bool.false_eq_true, if_false, Bool.and_eq_true, decide_eq_true_eq,
    Option.isNone_iff_eq_none]
  split <;> rfl

end Playback

/-- Settles O33: each place of a chime's head and loop, the fade, and the sample's address. -/
theorem voicePlaysToItsEnd : Obligations.VoicePlaysToItsEnd := by
  refine ⟨fun x chimes fall hs hdue => ?_, fun x chimes fall hr hdue => ?_, fun x chimes => ?_⟩
  · intro d y
    have hy : y = x.advance d := Voice.tick_sounding hs fall
    rw [hy]
    exact ⟨Voice.advance_head, Voice.advance_enterLoop, Voice.advance_headEnds, Voice.advance_loop,
      Voice.advance_unlimited, fun k => Voice.advance_nextPass,
      fun h hlast hloops => ⟨Voice.advance_lastPass h hlast hloops, (x.advance_keeps d).1⟩⟩
  · intro y sounding
    obtain ⟨hchime, hreleasing, hlevel, -, -⟩ := x.advance_keeps (chimeDesc chimes x.chime)
    have hsounding : sounding = { x.advance (chimeDesc chimes x.chime) with releasing := false } :=
      (Voice.tick_sounding rfl fall).trans (x.advance_releasing _ false)
    have hy : y = _ := Voice.fade_releasing (hreleasing.trans hr) fall
    rw [hy, hsounding, hlevel]
    refine ⟨rfl, hreleasing.trans hr, hchime, rfl, rfl, rfl, fun h => ?_, fun h hl => ?_, fun h hl => ?_⟩
    · exact (if_neg fun ⟨_, hnone⟩ => Option.some_ne_none _ (h.symm.trans hnone)).trans h
    · exact if_pos ⟨Nat.sub_eq_zero_of_le hl, h⟩
    · exact (if_neg fun ⟨hzero, _⟩ => Nat.sub_ne_zero_of_lt hl hzero).trans h
  · exact ⟨fun h => by rw [Voice.address, h], fun h => by rw [Voice.address, h]⟩

end Sys2Proof.Machine
end

section
/-! The admission level holds voices back or lets candidates in, and STOP_CHIME removes a chime (O35). -/

namespace Sys2Proof.Machine

open Sys2Proof

section Hold

variable {c : ChimeEngine} {chimes : Table} {l : Nat} {v w : VoiceId} {x y : Voice} {vs : List VoiceId}

/-! The voices below a level (R160) -/

/-- A voice is SOUNDING a chime below a level. -/
def ChimeEngine.Below (c : ChimeEngine) (chimes : Table) (l : Nat) (v : VoiceId) (x : Voice) : Prop :=
  c.voices.get v = some x ∧ x.releasing = false ∧ prioOf chimes x.chime < l

theorem ChimeEngine.earliestBelow_best (c : ChimeEngine) (chimes : Table) (l : Nat) :
    c.Best (fun x => x.releasing || decide (l ≤ prioOf chimes x.chime)) (fun x y => x.order < y.order) [.v0, .v1, .v2]
      (c.earliestBelow chimes l) :=
  c.weigh_best _ _ (fun _ _ h => by omega) (fun _ _ _ h k => by omega) [.v0, .v1, .v2]

theorem notSkipped_iff : (x.releasing || decide (l ≤ prioOf chimes x.chime)) = false ↔
    x.releasing = false ∧ prioOf chimes x.chime < l := by
  simp

/-- The voice held back next is the earliest-started of those below the level. -/
theorem ChimeEngine.earliestBelow_some (h : c.earliestBelow chimes l = some (v, x)) :
    c.Below chimes l v x ∧ ∀ w y, c.Below chimes l w y → x.order ≤ y.order := by
  obtain ⟨found, least, -⟩ := c.earliestBelow_best chimes l
  obtain ⟨hv, hx⟩ := found v x h
  refine ⟨⟨hv, notSkipped_iff.mp hx⟩, fun w y ⟨hw, hy⟩ => ?_⟩
  exact Nat.not_lt.mp (least v x h w (voiceId_mem w) y hw (notSkipped_iff.mpr hy))

theorem ChimeEngine.earliestBelow_none (h : c.earliestBelow chimes l = none) (w : VoiceId) (y : Voice) :
    ¬ c.Below chimes l w y := by
  obtain ⟨-, -, hnone⟩ := c.earliestBelow_best chimes l
  rintro ⟨hw, hy⟩
  rw [← notSkipped_iff, hnone h w (voiceId_mem w) y hw] at hy
  cases hy

/-! Holding one voice back -/

theorem ChimeEngine.holdBack_suspends (hr : (chimeDesc chimes x.chime).retain = true) (hroom : c.suspended.length < 3) :
    c.holdBack chimes v x = { c with suspended := x.saved :: c.suspended, voices := c.voices.set v none } :=
  if_pos (by rw [hr]; exact decide_eq_true hroom)

theorem ChimeEngine.holdBack_releases (h : ¬ ((chimeDesc chimes x.chime).retain = true ∧ c.suspended.length < 3)) :
    c.holdBack chimes v x = { c with voices := c.voices.set v (some { x with releasing := true }) } :=
  if_neg fun hboth => h ((Bool.and_eq_true _ _ ▸ hboth).imp_right of_decide_eq_true)

/-- A voice below the level is suspended and FREE, or RELEASING. -/
theorem ChimeEngine.holdBack_cases (c : ChimeEngine) (chimes : Table) (v : VoiceId) (x : Voice) :
    ((chimeDesc chimes x.chime).retain = true ∧ c.suspended.length < 3 ∧ c.holdBack chimes v x =
      { c with suspended := x.saved :: c.suspended, voices := c.voices.set v none }) ∨
    c.holdBack chimes v x = { c with voices := c.voices.set v (some { x with releasing := true }) } := by
  by_cases h : (chimeDesc chimes x.chime).retain = true ∧ c.suspended.length < 3
  · exact .inl ⟨h.1, h.2, ChimeEngine.holdBack_suspends h.1 h.2⟩
  · exact .inr (ChimeEngine.holdBack_releases h)

theorem ChimeEngine.holdBack_other (c : ChimeEngine) (chimes : Table) (x : Voice) (h : w ≠ v) :
    (c.holdBack chimes v x).voices.get w = c.voices.get w := by
  rcases c.holdBack_cases chimes v x with ⟨-, -, he⟩ | he
  · rw [he]; exact PerVoice.get_set_other _ _ h
  · rw [he]; exact PerVoice.get_set_other _ _ h

theorem ChimeEngine.holdBack_notBelow (c : ChimeEngine) (chimes : Table) (v : VoiceId) (x y : Voice) :
    ¬ (c.holdBack chimes v x).Below chimes l v y := by
  rintro ⟨hv, hy, -⟩
  rcases c.holdBack_cases chimes v x with ⟨-, -, he⟩ | he
  · rw [he, PerVoice.get_set_same] at hv
    cases hv
  · rw [he, PerVoice.get_set_same] at hv
    obtain rfl := Option.some.inj hv
    cases hy

/-! Holding the voices of a list back, one after another -/

/-- A voice that is not FREE is held back. -/
def ChimeEngine.holdVoice (chimes : Table) (e : ChimeEngine) (v : VoiceId) : ChimeEngine :=
  match e.voices.get v with
  | none => e
  | some x => e.holdBack chimes v x

theorem ChimeEngine.holdVoice_busy (h : c.voices.get v = some x) : c.holdVoice chimes v = c.holdBack chimes v x := by
  rw [ChimeEngine.holdVoice, h]

/-- What holding voices back leaves: the level, the queue, and every place that was suspended before. -/
structure ChimeEngine.HeldFrom (c t : ChimeEngine) : Prop where
  level     : t.level = c.level
  suspended : c.suspended <:+ t.suspended

theorem ChimeEngine.holdVoice_from (c : ChimeEngine) (chimes : Table) (v : VoiceId) : c.HeldFrom (c.holdVoice chimes v) := by
  unfold ChimeEngine.holdVoice
  split
  · exact ⟨rfl, List.suffix_rfl⟩
  next x _ =>
    rcases c.holdBack_cases chimes v x with ⟨-, -, he⟩ | he
    · rw [he]; exact ⟨rfl, List.suffix_cons _ _⟩
    · rw [he]; exact ⟨rfl, List.suffix_rfl⟩

theorem ChimeEngine.holdVoice_other (c : ChimeEngine) (chimes : Table) (h : w ≠ v) :
    (c.holdVoice chimes v).voices.get w = c.voices.get w := by
  unfold ChimeEngine.holdVoice
  split
  · rfl
  · exact c.holdBack_other chimes _ h

theorem ChimeEngine.holdVoice_length (c : ChimeEngine) (chimes : Table) (v : VoiceId) :
    (c.holdVoice chimes v).suspended.length ≤ c.suspended.length + 1 := by
  unfold ChimeEngine.holdVoice
  split
  · exact Nat.le_succ _
  next x _ =>
    rcases c.holdBack_cases chimes v x with ⟨-, -, he⟩ | he
    · rw [he]; exact le_rfl
    · rw [he]; exact Nat.le_succ _

theorem ChimeEngine.holdAll_from (c : ChimeEngine) (chimes : Table) (vs : List VoiceId) :
    c.HeldFrom (vs.foldl (ChimeEngine.holdVoice chimes) c) := by
  induction vs generalizing c with
  | nil => exact ⟨rfl, List.suffix_rfl⟩
  | cons v rest ih =>
    obtain ⟨hlevel, hsuspended⟩ := c.holdVoice_from chimes v
    obtain ⟨hlevel', hsuspended'⟩ := ih (c.holdVoice chimes v)
    exact ⟨hlevel'.trans hlevel, hsuspended.trans hsuspended'⟩

theorem ChimeEngine.holdAll_other (c : ChimeEngine) (chimes : Table) (h : w ∉ vs) :
    (vs.foldl (ChimeEngine.holdVoice chimes) c).voices.get w = c.voices.get w := by
  induction vs generalizing c with
  | nil => rfl
  | cons v rest ih =>
    obtain ⟨hv, hrest⟩ := not_or.mp (mt List.mem_cons.mpr h)
    exact (ih _ hrest).trans (c.holdVoice_other chimes hv)

theorem ChimeEngine.holdAll_length (c : ChimeEngine) (chimes : Table) (vs : List VoiceId) :
    (vs.foldl (ChimeEngine.holdVoice chimes) c).suspended.length ≤ c.suspended.length + vs.length := by
  induction vs generalizing c with
  | nil => exact le_rfl
  | cons v rest ih =>
    have hone := c.holdVoice_length chimes v
    have hrest := ih (c.holdVoice chimes v)
    simp only [List.foldl_cons, List.length_cons]
    omega

/-- What has become of a voice in the list: suspended where its chime is retained and there was room, else RELEASING. -/
theorem ChimeEngine.holdAll_held (hnodup : vs.Nodup) (hv : v ∈ vs) (hx : c.voices.get v = some x) :
    let t := vs.foldl (ChimeEngine.holdVoice chimes) c
    (t.voices.get v = some { x with releasing := true } ∧
      ((chimeDesc chimes x.chime).retain = true → 3 ≤ c.suspended.length + (vs.length - 1))) ∨
    ((chimeDesc chimes x.chime).retain = true ∧ t.voices.get v = none ∧ x.saved ∈ t.suspended) := by
  obtain ⟨as, bs, rfl⟩ := List.append_of_mem hv
  obtain ⟨has, hbs⟩ : v ∉ as ∧ v ∉ bs := by
    have := List.nodup_middle.mp hnodup
    exact not_or.mp (mt List.mem_append.mpr (List.nodup_cons.mp this).1)
  intro t
  have ht : t = bs.foldl (ChimeEngine.holdVoice chimes) ((as.foldl (ChimeEngine.holdVoice chimes) c).holdVoice chimes v) := by
    simp only [t, List.foldl_append, List.foldl_cons]
  have hlen := c.holdAll_length chimes as
  have hbusy := (c.holdAll_other chimes has).trans hx
  generalize as.foldl (ChimeEngine.holdVoice chimes) c = e at ht hlen hbusy
  rw [ChimeEngine.holdVoice_busy hbusy] at ht
  have hget : t.voices.get v = (e.holdBack chimes v x).voices.get v := ht ▸ ChimeEngine.holdAll_other _ chimes hbs
  have hsuspended : (e.holdBack chimes v x).suspended <:+ t.suspended := ht ▸ (ChimeEngine.holdAll_from _ chimes bs).suspended
  by_cases h : (chimeDesc chimes x.chime).retain = true ∧ e.suspended.length < 3
  · rw [ChimeEngine.holdBack_suspends h.1 h.2] at hget hsuspended
    rw [PerVoice.get_set_same] at hget
    exact .inr ⟨h.1, hget, hsuspended.subset List.mem_cons_self⟩
  · rw [ChimeEngine.holdBack_releases h, PerVoice.get_set_same] at hget
    refine .inl ⟨hget, fun hr => ?_⟩
    have hfull : 3 ≤ e.suspended.length := Nat.not_lt.mp fun hroom => h ⟨hr, hroom⟩
    simp only [List.length_append, List.length_cons]
    omega

/-! A raise holds back the voices below the level in start order (R160) -/

/-- The voices of a list are below the level, each once, in start order. -/
structure ChimeEngine.HoldOrder (c : ChimeEngine) (chimes : Table) (l : Nat) (vs : List VoiceId) : Prop where
  nodup : vs.Nodup
  below : ∀ v ∈ vs, ∃ x, c.Below chimes l v x
  order : vs.Pairwise fun v w => ∀ x y, c.voices.get v = some x → c.voices.get w = some y → x.order ≤ y.order

theorem ChimeEngine.HoldOrder.cons (hv : c.earliestBelow chimes l = some (v, x))
    (h : (c.holdBack chimes v x).HoldOrder chimes l vs) : c.HoldOrder chimes l (v :: vs) := by
  obtain ⟨hbelow, hleast⟩ := ChimeEngine.earliestBelow_some hv
  have hnotin : v ∉ vs := fun hin =>
    let ⟨y, hy⟩ := h.below v hin
    c.holdBack_notBelow chimes v x y hy
  have hsame : ∀ w ∈ vs, (c.holdBack chimes v x).voices.get w = c.voices.get w := fun w hw =>
    c.holdBack_other chimes x fun he => hnotin (he ▸ hw)
  have hrest : ∀ w ∈ vs, ∃ y, c.Below chimes l w y := fun w hw =>
    let ⟨y, hget, hy⟩ := h.below w hw
    ⟨y, (hsame w hw).symm.trans hget, hy⟩
  refine ⟨List.nodup_cons.mpr ⟨hnotin, h.nodup⟩, List.forall_mem_cons.mpr ⟨⟨x, hbelow⟩, hrest⟩,
    List.pairwise_cons.mpr ⟨fun w hw y z hy hz => ?_, h.order.imp_of_mem fun ha hb hord y z hy hz => ?_⟩⟩
  · obtain ⟨u, hu⟩ := hrest w hw
    obtain rfl : x = y := Option.some.inj (hbelow.1.symm.trans hy)
    obtain rfl : u = z := Option.some.inj (hu.1.symm.trans hz)
    exact hleast w u hu
  · exact hord y z ((hsame _ ha).trans hy) ((hsame _ hb).trans hz)

/-- Some steps of a raise hold back a list of voices in start order, and stop short only when none is left below. -/
theorem ChimeEngine.holdBackNext_iterate (c : ChimeEngine) (chimes : Table) (l k : Nat) :
    ∃ vs, c.HoldOrder chimes l vs ∧
      (fun e : ChimeEngine => e.holdBackNext chimes l)^[k] c = vs.foldl (ChimeEngine.holdVoice chimes) c ∧
      (vs.length = k ∨ ∀ v x, ¬ (vs.foldl (ChimeEngine.holdVoice chimes) c).Below chimes l v x) := by
  induction k generalizing c with
  | zero => exact ⟨[], ⟨List.nodup_nil, nofun, .nil⟩, rfl, .inl rfl⟩
  | succ k ih =>
    rw [Function.iterate_succ_apply]
    cases hv : c.earliestBelow chimes l with
    | none =>
      have hidle : c.holdBackNext chimes l = c := by rw [ChimeEngine.holdBackNext, hv]
      refine ⟨[], ⟨List.nodup_nil, nofun, .nil⟩, ?_, .inr (ChimeEngine.earliestBelow_none hv)⟩
      rw [hidle]
      exact Function.iterate_fixed hidle k
    | some best =>
      obtain ⟨v, x⟩ := best
      obtain ⟨⟨hget, -⟩, -⟩ := ChimeEngine.earliestBelow_some hv
      have hstep : c.holdBackNext chimes l = c.holdBack chimes v x := by rw [ChimeEngine.holdBackNext, hv]
      obtain ⟨vs, horder, hfold, hend⟩ := ih (c.holdBack chimes v x)
      refine ⟨v :: vs, horder.cons hv, ?_, ?_⟩
      · rw [hstep, hfold, List.foldl_cons, ChimeEngine.holdVoice_busy hget]
      · rw [List.foldl_cons, ChimeEngine.holdVoice_busy hget]
        exact hend.imp_left (congrArg Nat.succ)

theorem voiceIds_length_le (h : vs.Nodup) : vs.length ≤ 3 := by
  have hall : vs ⊆ [VoiceId.v0, .v1, .v2] := fun v _ => voiceId_mem v
  exact (h.subperm hall).length_le

/-- Three steps hold back every voice below the level. -/
theorem ChimeEngine.holdBackNext_all (c : ChimeEngine) (chimes : Table) (l : Nat) :
    ∃ vs, c.HoldOrder chimes l vs ∧ (∀ v x, c.Below chimes l v x → v ∈ vs) ∧
      ((c.holdBackNext chimes l).holdBackNext chimes l).holdBackNext chimes l =
        vs.foldl (ChimeEngine.holdVoice chimes) c := by
  obtain ⟨vs, horder, hfold, hend⟩ := c.holdBackNext_iterate chimes l 3
  refine ⟨vs, horder, fun v x hbelow => ?_, hfold⟩
  by_contra hv
  rcases hend with hlen | hnone
  · have := voiceIds_length_le (List.nodup_cons.mpr ⟨hv, horder.nodup⟩)
    simp [hlen] at this
  · exact hnone v x ⟨(c.holdAll_other chimes hv).trans hbelow.1, hbelow.2⟩

end Hold

section Refill

variable {c t u : ChimeEngine} {chimes : Table} {l : Nat} {look : VoiceId → Bool} {v : VoiceId} {n : Nat}

/-! FREE voices take candidates (R159) -/

/-- What letting voices take candidates leaves: the level, every voice that is not FREE or does not look, and every
suspended chime that is not admitted. -/
structure ChimeEngine.Refilled (chimes : Table) (look : VoiceId → Bool) (c t : ChimeEngine) : Prop where
  level     : t.level = c.level
  busy      : ∀ v x, c.voices.get v = some x → t.voices.get v = some x
  others    : ∀ v, look v = false → t.voices.get v = c.voices.get v
  suspended : ∀ p ∈ c.suspended, prioOf chimes p.chime < c.level → p ∈ t.suspended

theorem ChimeEngine.Refilled.refl (chimes : Table) (look : VoiceId → Bool) (c : ChimeEngine) :
    c.Refilled chimes look c := ⟨rfl, fun _ _ => id, fun _ _ => rfl, fun _ h _ => h⟩

theorem ChimeEngine.Refilled.trans (h : c.Refilled chimes look t) (k : t.Refilled chimes look u) :
    c.Refilled chimes look u where
  level := k.level.trans h.level
  busy v x hx := k.busy v x (h.busy v x hx)
  others v hv := (k.others v hv).trans (h.others v hv)
  suspended p hp hlow := k.suspended p (h.suspended p hp hlow) (h.level ▸ hlow)

/-- A chime on a FREE voice that looks, put there from an engine with the same voices. -/
theorem ChimeEngine.Refilled.put {x : Voice} (hlook : look v = true) (hfree : c.voices.get v = none)
    (hvoices : t.voices = c.voices.set v (some x)) (hlevel : t.level = c.level)
    (hsuspended : ∀ p ∈ c.suspended, prioOf chimes p.chime < c.level → p ∈ t.suspended) : c.Refilled chimes look t where
  level := hlevel
  busy w y hy := by
    rw [hvoices, PerVoice.get_set_other _ _ (by rintro rfl; simp [hfree] at hy), hy]
  others w hw := by
    rw [hvoices, PerVoice.get_set_other _ _ (by rintro rfl; simp [hlook] at hw)]
  suspended := hsuspended

theorem ChimeEngine.refill_eq (c : ChimeEngine) (chimes : Table) (look : VoiceId → Bool) (v : VoiceId) :
    c.refill chimes look v = if look v = true ∧ c.voices.get v = none then c.takeCandidate chimes v else c := by
  simp only [ChimeEngine.refill, Bool.and_eq_true, ChimeEngine.isFree_iff]

theorem ChimeEngine.refill_refilled (c : ChimeEngine) (chimes : Table) (look : VoiceId → Bool) (v : VoiceId) :
    c.Refilled chimes look (c.refill chimes look v) := by
  rw [ChimeEngine.refill_eq]
  split
  next h =>
    obtain ⟨hlook, hfree⟩ := h
    rcases c.takeCandidate_cases chimes v with he | ⟨p, rest, hs, hp, he⟩ | ⟨n, rest, -, -, he⟩
    · rw [he]; exact .refl chimes look c
    · rw [he]
      refine .put hlook hfree rfl rfl fun q hq hlow => ?_
      rcases List.mem_cons.mp (hs ▸ hq) with rfl | hq
      · exact absurd hp (Nat.not_le.mpr hlow)
      · exact hq
    · rw [he]; exact .put hlook hfree rfl rfl fun _ hq _ => hq
  next => exact .refl chimes look c

theorem ChimeEngine.refillAll_refilled (c : ChimeEngine) (chimes : Table) (look : VoiceId → Bool) :
    c.Refilled chimes look (c.refillAll chimes look) :=
  ((c.refill_refilled chimes look .v0).trans (ChimeEngine.refill_refilled _ chimes look .v1)).trans
    (ChimeEngine.refill_refilled _ chimes look .v2)

/-! The admission level (R160) -/

theorem ChimeEngine.setLevel_raise (h : c.level < l) : c.setLevel chimes l =
    ((((({ c with level := l } : ChimeEngine).holdBackNext chimes l).holdBackNext chimes l).holdBackNext chimes l).refillAll
      chimes fun v => !c.isFree v) := if_pos h

theorem ChimeEngine.setLevel_fall (h : l < c.level) :
    c.setLevel chimes l = ({ c with level := l } : ChimeEngine).refillAll chimes fun _ => true :=
  (if_neg (Nat.not_lt.mpr h.le)).trans (if_pos h)

theorem ChimeEngine.setLevel_same (chimes : Table) (h : l = c.level) : c.setLevel chimes l = c :=
  (if_neg h.not_gt).trans (if_neg h.not_lt)

theorem ChimeEngine.setLevel_level (c : ChimeEngine) (chimes : Table) (l : Nat) : (c.setLevel chimes l).level = l := by
  rcases lt_trichotomy c.level l with h | h | h
  · obtain ⟨vs, -, -, hheld⟩ := ({ c with level := l } : ChimeEngine).holdBackNext_all chimes l
    rw [ChimeEngine.setLevel_raise h, (ChimeEngine.refillAll_refilled _ _ _).level, hheld,
      (ChimeEngine.holdAll_from _ _ _).level]
  · rw [ChimeEngine.setLevel_same chimes h.symm, h]
  · rw [ChimeEngine.setLevel_fall h, (ChimeEngine.refillAll_refilled _ _ _).level]

/-- What a rise makes of one voice (R160). -/
theorem ChimeEngine.setLevel_raise_voice (h : c.level < l) (chimes : Table) (v : VoiceId) :
    let t := c.setLevel chimes l
    (c.voices.get v = none → t.voices.get v = none) ∧
    (∀ x, c.voices.get v = some x → (x.releasing = true ∨ l ≤ prioOf chimes x.chime) → t.voices.get v = some x) ∧
    ∀ x, c.Below chimes l v x → (t.voices.get v = some { x with releasing := true } ∧
      ((chimeDesc chimes x.chime).retain = true → c.suspended ≠ [])) ∨
      ((chimeDesc chimes x.chime).retain = true ∧ x.saved ∈ t.suspended) := by
  obtain ⟨vs, horder, hall, hheld⟩ := ({ c with level := l } : ChimeEngine).holdBackNext_all chimes l
  intro t
  have ht : t = _ := ChimeEngine.setLevel_raise h
  rw [hheld] at ht
  have hlevel := (ChimeEngine.holdAll_from ({ c with level := l } : ChimeEngine) chimes vs).level
  have hrefilled := ChimeEngine.refillAll_refilled (vs.foldl (ChimeEngine.holdVoice chimes) { c with level := l }) chimes
    fun v => !c.isFree v
  rw [← ht] at hrefilled
  have hkept : ∀ w, w ∉ vs → (vs.foldl (ChimeEngine.holdVoice chimes) { c with level := l }).voices.get w = c.voices.get w :=
    fun w hw => ChimeEngine.holdAll_other _ chimes hw
  have hnotin : (∀ x, ¬ c.Below chimes l v x) → v ∉ vs := fun hnone hv =>
    let ⟨x, hx⟩ := horder.below v hv
    hnone x hx
  refine ⟨fun hfree => ?_, fun x hx hstays => ?_, fun x hbelow => ?_⟩
  · have hv : v ∉ vs := hnotin fun x hx => Option.some_ne_none x (hx.1.symm.trans hfree)
    rw [hrefilled.others v (by simp [ChimeEngine.isFree, hfree]), hkept v hv, hfree]
  · refine hrefilled.busy v x ((hkept v (hnotin fun y hy => ?_)).trans hx)
    obtain ⟨hget, hreleasing, hlow⟩ := hy
    obtain rfl : x = y := Option.some.inj (hx.symm.trans hget)
    rcases hstays with hr | hp
    · exact Bool.false_ne_true (hreleasing.symm.trans hr)
    · exact Nat.not_le.mpr hlow hp
  · have hv := hall v x hbelow
    obtain ⟨hget, -, hlow⟩ := hbelow
    rcases ChimeEngine.holdAll_held (c := { c with level := l }) (chimes := chimes) horder.nodup hv hget with
      ⟨hheld, hfull⟩ | ⟨hr, -, hsaved⟩
    · refine .inl ⟨hrefilled.busy v _ hheld, fun hr hempty => ?_⟩
      have hroom := hfull hr
      have hlen := voiceIds_length_le horder.nodup
      simp only [hempty, List.length_nil] at hroom
      omega
    · exact .inr ⟨hr, hrefilled.suspended _ hsaved (hlevel ▸ hlow)⟩

end Refill

/-- Holding voices back, as a step on the engine written out field by field. -/
theorem ChimeEngine.holdVoice_eq (chimes : Table) : ChimeEngine.holdVoice chimes = fun (e : ChimeEngine) v => match e.voices.get v with
    | none => e
    | some x => if (chimeDesc chimes x.chime).retain = true ∧ e.suspended.length < 3
      then { e with suspended := x.saved :: e.suspended, voices := e.voices.set v none }
      else { e with voices := e.voices.set v (some { x with releasing := true }) } := by
  funext e v
  cases h : e.voices.get v with
  | none => rw [ChimeEngine.holdVoice, h]
  | some x =>
    rw [ChimeEngine.holdVoice_busy h]
    by_cases hr : (chimeDesc chimes x.chime).retain = true ∧ e.suspended.length < 3
    · rw [ChimeEngine.holdBack_suspends hr.1 hr.2]; exact (if_pos hr).symm
    · rw [ChimeEngine.holdBack_releases hr]; exact (if_neg hr).symm

theorem ChimeEngine.refillAll_eq_foldl (c : ChimeEngine) (chimes : Table) (look : VoiceId → Bool) :
    c.refillAll chimes look = [VoiceId.v0, .v1, .v2].foldl (fun (e : ChimeEngine) v =>
      if look v = true ∧ e.voices.get v = none then e.takeCandidate chimes v else e) c := by
  simp only [ChimeEngine.refillAll, ChimeEngine.refill_eq, List.foldl_cons, List.foldl_nil]

theorem stopVoice_same {n : Nat} {x : Voice} (h : x.chime = n) : stopVoice n (some x) = some { x with releasing := true } :=
  congrArg some (if_pos h)

theorem stopVoice_other {n : Nat} {y : Option Voice} (h : ∀ x, y = some x → x.chime ≠ n) : stopVoice n y = y := by
  cases y with
  | none => rfl
  | some x => exact congrArg some (if_neg (h x rfl))

/-- Settles O35: the raise voice by voice and as a whole, the fall, and STOP_CHIME. -/
theorem admissionLevelAndStopChime : Obligations.AdmissionLevelAndStopChime := by
  refine ⟨fun c chimes l => ?_, fun s r q h => State.exec_takes h, fun c n => ⟨rfl, rfl, rfl, fun v => ⟨?_, ?_⟩⟩⟩
  · intro t
    refine ⟨c.setLevel_level chimes l, ChimeEngine.setLevel_same chimes, fun h v => ?_, fun h => ?_, fun h => ?_⟩
    · obtain ⟨hfree, hstays, hbelow⟩ := ChimeEngine.setLevel_raise_voice h chimes v
      refine ⟨hfree, hstays, fun x hx hs hp => ?_⟩
      rcases hbelow x ⟨hx, hs, hp⟩ with ⟨hreleased, hfull⟩ | ⟨hr, hsaved⟩
      · exact ⟨fun _ => hreleased, .inl hreleased, fun hr hempty => absurd hempty (hfull hr)⟩
      · exact ⟨fun hno => absurd (hr.symm.trans hno) (by decide), .inr hsaved, fun _ _ => hsaved⟩
    · obtain ⟨vs, horder, hall, hheld⟩ := ({ c with level := l } : ChimeEngine).holdBackNext_all chimes l
      refine ⟨vs, horder.nodup, fun v => ⟨horder.below v, fun ⟨x, hx⟩ => hall v x hx⟩, horder.order, ?_⟩
      have ht : t = _ := ChimeEngine.setLevel_raise h
      rw [ht, hheld, ChimeEngine.refillAll_eq_foldl, ChimeEngine.holdVoice_eq]
      simp only [Bool.not_eq_true', ← Bool.not_eq_true, ChimeEngine.isFree_iff, ne_eq]
      rfl
    · have ht : t = _ := ChimeEngine.setLevel_fall h
      rw [ht, ChimeEngine.refillAll_eq_foldl]
      simp only [true_and]
  · intro x hx hn
    exact (PerVoice.get_map ..).trans (hx ▸ stopVoice_same hn)
  · intro hother
    exact (PerVoice.get_map ..).trans (stopVoice_other hother)

end Sys2Proof.Machine
end

section
/-! The Chime Engine in order: no chime twice, the lists within their sizes, the queue ordered, no voice SOUNDING below the
admission level, and that every operation of the engine keeps it so (O59). -/

namespace Sys2Proof.Machine

open Sys2Proof

/-! Where a chime number appears, counted (R153) -/

/-- How often a voice is on a chime: once or not at all. -/
def voiceCount (x : Option Voice) (m : Nat) : Nat := if x.map (fun v => v.chime) = some m then 1 else 0

/-- How many of the three voices are on a chime. -/
def voicesCount (q : PerVoice (Option Voice)) (m : Nat) : Nat :=
  voiceCount q.v0 m + voiceCount q.v1 m + voiceCount q.v2 m

@[simp] theorem voiceCount_none (m : Nat) : voiceCount none m = 0 := rfl

@[simp] theorem voiceCount_some (x : Voice) (m : Nat) : voiceCount (some x) m = if x.chime = m then 1 else 0 := by
  simp [voiceCount]

/-- A voice that changes its chime gives up its old one. -/
theorem voicesCount_set (q : PerVoice (Option Voice)) (v : VoiceId) (y : Option Voice) (m : Nat) :
    voicesCount (q.set v y) m + voiceCount (q.get v) m = voicesCount q m + voiceCount y m := by
  cases v <;> simp only [voicesCount, PerVoice.set, PerVoice.get] <;> omega

theorem ChimeEngine.numbers_count (c : ChimeEngine) (m : Nat) : c.numbers.count m =
    voicesCount c.voices m + (c.suspended.map fun p => p.chime).count m + c.queue.count m := by
  have hvoices : ∀ (x : Option Voice) (rest : List (Option Voice)),
      ((x :: rest).filterMap fun x => x.map fun v => v.chime).count m =
        voiceCount x m + (rest.filterMap fun x => x.map fun v => v.chime).count m := by
    intro x rest
    cases x with
    | none => simp
    | some x => simp [List.count_cons, Nat.add_comm]
  simp only [ChimeEngine.numbers, List.count_append, hvoices, voicesCount, List.filterMap_nil, List.count_nil,
    Nat.add_zero, Nat.add_assoc]

theorem insertChime_count (chimes : Table) (n : Nat) (q : List Nat) (m : Nat) :
    (insertChime chimes n q).count m = q.count m + if n = m then 1 else 0 := by
  obtain ⟨before, after, hq, hins, -⟩ := insertChime_split chimes n q
  rw [hins, hq, List.count_append, List.count_append, List.count_cons]
  simp only [beq_iff_eq]
  omega

theorem offerChime_count (chimes : Table) (n : Nat) (q : List Nat) (m : Nat) :
    (offerChime chimes n q).count m ≤ q.count m + if n = m then 1 else 0 := by
  rcases offerChime_cases chimes n q with ⟨-, he⟩ | ⟨kept, low, rfl, he⟩ | he
  · rw [he, insertChime_count]
  · rw [he, insertChime_count, List.count_append]
    omega
  · rw [he]
    omega

theorem queueOrdered_iff_pairwise (chimes : Table) (q : List Nat) :
    queueOrdered chimes q = true ↔ q.Pairwise fun n m => prioOf chimes m ≤ prioOf chimes n := by
  induction q with
  | nil => simp [queueOrdered]
  | cons n rest ih => simp [queueOrdered, ih]

/-! The invariant -/

/-- No chime twice, each below 32, the lists within their sizes, and the queue ordered (R153, R158). -/
structure ChimeEngine.Ranked (c : ChimeEngine) (chimes : Table) : Prop where
  suspended : c.suspended.length ≤ 3
  queue     : c.queue.length ≤ 8
  once      : ∀ m, c.numbers.count m ≤ 1
  known     : ∀ m, 0 < c.numbers.count m → m < 32
  ordered   : queueOrdered chimes c.queue = true

/-- No voice is SOUNDING a chime below the admission level (R160). -/
def ChimeEngine.Admitting (c : ChimeEngine) (chimes : Table) : Prop :=
  ∀ v x, c.voices.get v = some x → x.releasing = false → c.level ≤ prioOf chimes x.chime

structure ChimeEngine.InOrder (c : ChimeEngine) (chimes : Table) : Prop extends c.Ranked chimes where
  admits : c.Admitting chimes

section Engine

variable {c t : ChimeEngine} {chimes : Table} {v : VoiceId} {n l : Nat}

theorem ChimeEngine.sound_iff (c : ChimeEngine) : c.sound = true ↔ c.suspended.length ≤ 3 ∧ c.queue.length ≤ 8 ∧
    (∀ m, c.numbers.count m ≤ 1) ∧ ∀ m, 0 < c.numbers.count m → m < 32 := by
  simp only [ChimeEngine.sound, Bool.and_eq_true, decide_eq_true_eq, List.all_eq_true, List.nodup_iff_count_le_one,
    List.count_pos_iff, and_assoc]
  rfl

theorem ChimeEngine.admits_iff (c : ChimeEngine) (chimes : Table) : c.admits chimes = true ↔ c.Admitting chimes := by
  simp only [ChimeEngine.admits, List.all_eq_true]
  constructor
  · intro h v x hx hs
    have hv := h (c.voices.get v) (by cases v <;> simp [PerVoice.get])
    simpa [hx, hs] using hv
  · intro h y hy
    obtain ⟨v, rfl⟩ : ∃ v, c.voices.get v = y := by
      simp only [List.mem_cons, List.not_mem_nil, or_false] at hy
      rcases hy with rfl | rfl | rfl
      exacts [⟨.v0, rfl⟩, ⟨.v1, rfl⟩, ⟨.v2, rfl⟩]
    cases hx : c.voices.get v with
    | none => rfl
    | some x => cases hs : x.releasing <;> simp [hs, h v x hx]

theorem ChimeEngine.inOrder_iff (c : ChimeEngine) (chimes : Table) : c.InOrder chimes ↔
    c.sound = true ∧ c.admits chimes = true ∧ queueOrdered chimes c.queue = true := by
  rw [ChimeEngine.sound_iff, ChimeEngine.admits_iff]
  constructor
  · rintro ⟨⟨hsuspended, hqueue, honce, hknown, hordered⟩, hadmits⟩
    exact ⟨⟨hsuspended, hqueue, honce, hknown⟩, hadmits, hordered⟩
  · rintro ⟨⟨hsuspended, hqueue, honce, hknown⟩, hadmits, hordered⟩
    exact ⟨⟨hsuspended, hqueue, honce, hknown, hordered⟩, hadmits⟩

theorem voicesCount_pos {q : PerVoice (Option Voice)} {m : Nat} :
    0 < voicesCount q m ↔ ∃ v x, q.get v = some x ∧ x.chime = m := by
  have hone : ∀ y, 0 < voiceCount y m ↔ ∃ x, y = some x ∧ x.chime = m := by
    rintro (_ | x)
    · exact ⟨nofun, nofun⟩
    · by_cases h : x.chime = m <;> simp [h]
  constructor
  · intro h
    have hsome : 0 < voiceCount q.v0 m ∨ 0 < voiceCount q.v1 m ∨ 0 < voiceCount q.v2 m := by
      rw [voicesCount] at h
      omega
    rcases hsome with h | h | h
    exacts [⟨.v0, (hone _).mp h⟩, ⟨.v1, (hone _).mp h⟩, ⟨.v2, (hone _).mp h⟩]
  · rintro ⟨v, hv⟩
    have hv := (hone _).mpr hv
    rw [voicesCount]
    cases v <;> simp only [PerVoice.get] at hv <;> omega

/-- What the engine holds in any form it counts (R152). -/
theorem ChimeEngine.holds_iff : c.holds n = true ↔ 0 < c.numbers.count n := by
  have hvoice : (c.voiceOf n).isSome = true ↔ 0 < voicesCount c.voices n := by
    rw [voicesCount_pos, Option.isSome_iff_ne_none, ne_eq, ChimeEngine.voiceOf_none_iff]
    push Not
    rfl
  have hsuspended : (∃ p ∈ c.suspended, p.chime = n) ↔ 0 < (c.suspended.map fun p => p.chime).count n := by
    rw [List.count_pos_iff, List.mem_map]
  rw [ChimeEngine.holds, Bool.or_eq_true, ChimeEngine.waits_iff, hvoice, hsuspended, ← List.count_pos_iff,
    ChimeEngine.numbers_count]
  omega

/-- No chime more often than before. -/
theorem ChimeEngine.Ranked.of_fewer (h : c.Ranked chimes) (hsuspended : t.suspended.length ≤ 3)
    (hqueue : t.queue.length ≤ 8) (hordered : queueOrdered chimes t.queue = true)
    (hcount : ∀ m, t.numbers.count m ≤ c.numbers.count m) : t.Ranked chimes where
  suspended := hsuspended
  queue := hqueue
  once m := (hcount m).trans (h.once m)
  known m hm := h.known m (hm.trans_le (hcount m))
  ordered := hordered

/-- One chime joins that was nowhere. -/
theorem ChimeEngine.Ranked.of_joined (h : c.Ranked chimes) (hnew : ¬ c.holds n = true) (hn : n < 32)
    (hsuspended : t.suspended.length ≤ 3) (hqueue : t.queue.length ≤ 8)
    (hordered : queueOrdered chimes t.queue = true)
    (hcount : ∀ m, t.numbers.count m ≤ c.numbers.count m + if n = m then 1 else 0) : t.Ranked chimes where
  suspended := hsuspended
  queue := hqueue
  ordered := hordered
  once m := by
    have hm := hcount m
    split at hm
    next he =>
      rw [ChimeEngine.holds_iff, he] at hnew
      omega
    next => exact hm.trans (h.once m)
  known m hm := by
    by_cases he : n = m
    · exact he ▸ hn
    · have := hcount m
      rw [if_neg he] at this
      exact h.known m (hm.trans_le this)

/-! What a change of one voice or of one place in a list does to the counts -/

/-- One voice changes and the lists stay. -/
theorem ChimeEngine.numbers_count_set {y : Option Voice} (hv : t.voices = c.voices.set v y)
    (hs : t.suspended = c.suspended) (hq : t.queue = c.queue) (m : Nat) :
    t.numbers.count m + voiceCount (c.voices.get v) m = c.numbers.count m + voiceCount y m := by
  have hset := voicesCount_set c.voices v y m
  simp only [ChimeEngine.numbers_count, hv, hs, hq]
  omega

theorem ChimeEngine.startOn_count (c : ChimeEngine) (chimes : Table) (v : VoiceId) (n m : Nat) :
    (c.startOn chimes v n).numbers.count m + voiceCount (c.voices.get v) m =
      c.numbers.count m + if n = m then 1 else 0 := by
  have hset := ChimeEngine.numbers_count_set (t := c.startOn chimes v n) rfl rfl rfl m
  rwa [voiceCount_some] at hset

theorem ChimeEngine.resumeOn_count (c : ChimeEngine) (chimes : Table) (v : VoiceId) (p : Saved) (m : Nat) :
    (c.resumeOn chimes v p).numbers.count m + voiceCount (c.voices.get v) m =
      c.numbers.count m + if p.chime = m then 1 else 0 := by
  have hset := ChimeEngine.numbers_count_set (t := c.resumeOn chimes v p) rfl rfl rfl m
  rwa [voiceCount_some] at hset

theorem ChimeEngine.suspended_count (c : ChimeEngine) (p : Saved) (rest : List Saved) (m : Nat) :
    (ChimeEngine.numbers { c with suspended := p :: rest }).count m =
      (ChimeEngine.numbers { c with suspended := rest }).count m + if p.chime = m then 1 else 0 := by
  simp only [ChimeEngine.numbers_count, List.map_cons, List.count_cons, beq_iff_eq]
  omega

theorem ChimeEngine.saved_count (c : ChimeEngine) (x : Voice) (m : Nat) :
    (ChimeEngine.numbers { c with suspended := x.saved :: c.suspended }).count m =
      c.numbers.count m + if x.chime = m then 1 else 0 :=
  c.suspended_count x.saved c.suspended m

theorem ChimeEngine.queue_count (c : ChimeEngine) (n : Nat) (rest : List Nat) (m : Nat) :
    (ChimeEngine.numbers { c with queue := n :: rest }).count m =
      (ChimeEngine.numbers { c with queue := rest }).count m + if n = m then 1 else 0 := by
  simp only [ChimeEngine.numbers_count, List.count_cons, beq_iff_eq]
  omega

/-- One voice changes to FREE, to RELEASING, or to an admitted chime. -/
theorem ChimeEngine.Admitting.set {y : Option Voice} (h : c.Admitting chimes) (hv : t.voices = c.voices.set v y)
    (hl : t.level = c.level) (hy : ∀ x, y = some x → x.releasing = false → c.level ≤ prioOf chimes x.chime) :
    t.Admitting chimes := by
  intro w x hx hs
  rw [hl]
  by_cases hw : w = v
  · rw [hw, hv, PerVoice.get_set_same] at hx
    exact hy x hx hs
  · rw [hv, PerVoice.get_set_other _ _ hw] at hx
    exact h w x hx hs

theorem ChimeEngine.Admitting.startOn (h : c.Admitting chimes) (hn : c.level ≤ prioOf chimes n) :
    (c.startOn chimes v n).Admitting chimes :=
  h.set rfl rfl fun _ hx _ => Option.some.inj hx ▸ hn

/-! A voice becomes FREE and takes a candidate (R159) -/

theorem ChimeEngine.Ranked.takeCandidate (h : c.Ranked chimes) (hfree : c.voices.get v = none) :
    (c.takeCandidate chimes v).Ranked chimes := by
  rcases c.takeCandidate_cases chimes v with he | ⟨p, rest, hs, -, he⟩ | ⟨n, rest, hq, -, he⟩
  · rwa [he]
  · rw [he]
    have hlen := h.suspended
    rw [hs] at hlen
    refine h.of_fewer (Nat.le_of_succ_le hlen) h.queue h.ordered fun m => ?_
    have hput := ChimeEngine.resumeOn_count { c with suspended := rest } chimes v p m
    have htaken := c.suspended_count p rest m
    rw [← hs] at htaken
    rw [hfree, voiceCount_none] at hput
    exact (hput.trans htaken.symm).le
  · rw [he]
    have hlen := h.queue
    have hord := h.ordered
    rw [hq] at hlen hord
    refine h.of_fewer h.suspended (Nat.le_of_succ_le hlen) (queueOrdered_tail hord) fun m => ?_
    have hput := ChimeEngine.startOn_count { c with queue := rest } chimes v n m
    have htaken := c.queue_count n rest m
    rw [← hq] at htaken
    rw [hfree, voiceCount_none] at hput
    exact (hput.trans htaken.symm).le

theorem ChimeEngine.Admitting.takeCandidate (h : c.Admitting chimes) (v : VoiceId) :
    (c.takeCandidate chimes v).Admitting chimes := by
  rcases c.takeCandidate_cases chimes v with he | ⟨p, rest, -, hp, he⟩ | ⟨n, rest, -, hn, he⟩
  · rwa [he]
  · rw [he]
    exact h.set rfl rfl fun _ hx _ => Option.some.inj hx ▸ hp
  · rw [he]
    exact h.set rfl rfl fun _ hx _ => Option.some.inj hx ▸ hn

theorem ChimeEngine.InOrder.takeCandidate (h : c.InOrder chimes) (hfree : c.voices.get v = none) :
    (c.takeCandidate chimes v).InOrder chimes :=
  ⟨h.toRanked.takeCandidate hfree, h.admits.takeCandidate v⟩

theorem ChimeEngine.InOrder.freeVoice (h : c.InOrder chimes) (v : VoiceId) : (c.freeVoice v).InOrder chimes := by
  refine ⟨h.of_fewer h.suspended h.queue h.ordered fun m => ?_, h.admits.set rfl rfl nofun⟩
  have hset : _ = _ + voiceCount none m := ChimeEngine.numbers_count_set (t := c.freeVoice v) rfl rfl rfl m
  rw [voiceCount_none] at hset
  omega

theorem ChimeEngine.InOrder.endVoice (h : c.InOrder chimes) (v : VoiceId) : (c.endVoice chimes v).InOrder chimes := by
  unfold ChimeEngine.endVoice
  split
  · exact (h.freeVoice v).takeCandidate (PerVoice.get_set_same _ _ _)
  · exact h

theorem ChimeEngine.InOrder.settleEnds (h : c.InOrder chimes) : (c.settleEnds chimes).InOrder chimes :=
  ((h.endVoice .v0).endVoice .v1).endVoice .v2

/-! A request is settled (R156 to R158) -/

theorem ChimeEngine.InOrder.queueOrDrop (h : c.InOrder chimes) (hnew : ¬ c.holds n = true) (hn : n < 32) :
    (c.queueOrDrop chimes n).InOrder chimes := by
  by_cases hr : (chimeDesc chimes n).retain = true
  · rw [ChimeEngine.queueOrDrop_retained hr]
    refine ⟨h.of_joined hnew hn h.suspended (offerChime_length h.queue n) (offerChime_ordered h.ordered n) fun m => ?_,
      h.admits⟩
    have hoffer := offerChime_count chimes n c.queue m
    simp only [ChimeEngine.numbers_count]
    omega
  · rwa [ChimeEngine.queueOrDrop_dropped hr]

/-- A chime that the engine does not hold starts on a voice, whatever that voice gives up. -/
theorem ChimeEngine.InOrder.startNew (h : c.InOrder chimes) (hnew : ¬ c.holds n = true) (hn : n < 32)
    (hp : c.level ≤ prioOf chimes n) (v : VoiceId) : (c.startOn chimes v n).InOrder chimes := by
  refine ⟨h.of_joined hnew hn h.suspended h.queue h.ordered fun m => ?_, h.admits.startOn hp⟩
  have hput := c.startOn_count chimes v n m
  omega

/-- A chime that is on a voice starts on it again. -/
theorem ChimeEngine.InOrder.restart (h : c.InOrder chimes) (hv : c.voiceOf n = some v)
    (hp : c.level ≤ prioOf chimes n) : (c.startOn chimes v n).InOrder chimes := by
  obtain ⟨x, hx, rfl⟩ := ChimeEngine.voiceOf_some hv
  refine ⟨h.of_fewer h.suspended h.queue h.ordered fun m => ?_, h.admits.startOn hp⟩
  have hput := c.startOn_count chimes v x.chime m
  rw [hx, voiceCount_some] at hput
  omega

/-- The victim's place joins the suspend list as its voice is taken (R157). -/
theorem ChimeEngine.InOrder.suspendFor {x : Voice} (h : c.InOrder chimes) (hv : c.voices.get v = some x)
    (hroom : c.suspended.length < 3) (hnew : ¬ c.holds n = true) (hn : n < 32) (hp : c.level ≤ prioOf chimes n) :
    (ChimeEngine.startOn { c with suspended := x.saved :: c.suspended } chimes v n).InOrder chimes := by
  refine ⟨h.of_joined hnew hn hroom h.queue h.ordered fun m => ?_, ChimeEngine.Admitting.startOn h.admits hp⟩
  have hput := ChimeEngine.startOn_count { c with suspended := x.saved :: c.suspended } chimes v n m
  have hsaved := c.saved_count x m
  rw [hv, voiceCount_some] at hput
  omega

theorem ChimeEngine.InOrder.preempt (h : c.InOrder chimes) (hnew : ¬ c.holds n = true) (hn : n < 32)
    (hp : c.level ≤ prioOf chimes n) : (c.preempt chimes n).InOrder chimes := by
  unfold ChimeEngine.preempt
  split
  next => exact h.queueOrDrop hnew hn
  next v x hvictim =>
    obtain ⟨hv, -⟩ := ChimeEngine.victim_some hvictim
    split
    · exact h.queueOrDrop hnew hn
    · split
      · split
        next hroom => exact h.suspendFor hv hroom hnew hn hp
        next => exact h.queueOrDrop hnew hn
      · exact h.startNew hnew hn hp v

theorem ChimeEngine.InOrder.settle (h : c.InOrder chimes) (n : Nat) : (c.settle chimes n).InOrder chimes := by
  by_cases hsound : Soundable chimes n
  · cases hv : c.voiceOf n with
    | some v =>
      rw [ChimeEngine.settle_onVoice hsound hv]
      split
      next hp => exact h.restart hv hp
      next => exact h
    | none =>
      by_cases hw : c.waits n = true
      · rwa [ChimeEngine.settle_waiting hsound hv hw]
      · have hnew : ¬ c.holds n = true := by simp [ChimeEngine.holds, hv, hw]
        rcases Nat.lt_or_ge (prioOf chimes n) c.level with hp | hp
        · rw [ChimeEngine.settle_below hsound hv hw hp]
          exact h.queueOrDrop hnew hsound.1
        · cases hfree : c.lowestFree with
          | some v =>
            rw [ChimeEngine.settle_free hsound hv hw hp hfree]
            exact h.startNew hnew hsound.1 hp v
          | none =>
            rw [ChimeEngine.settle_busy hsound hv hw hp hfree]
            exact h.preempt hnew hsound.1 hp
  · rwa [ChimeEngine.settle_unsoundable hsound]

theorem ChimeEngine.InOrder.request (h : c.InOrder chimes) (n : Nat) : (c.request chimes n).InOrder chimes :=
  h.settleEnds.settle n

/-! The admission level moves (R160) -/

theorem ChimeEngine.Ranked.holdVoice (h : c.Ranked chimes) (v : VoiceId) : (c.holdVoice chimes v).Ranked chimes := by
  unfold ChimeEngine.holdVoice
  split
  · exact h
  next x hx =>
    rcases c.holdBack_cases chimes v x with ⟨-, hroom, he⟩ | he
    · rw [he]
      refine h.of_fewer hroom h.queue h.ordered fun m => ?_
      have hsaved := c.saved_count x m
      have hset := ChimeEngine.numbers_count_set (c := { c with suspended := x.saved :: c.suspended })
        (t := { c with suspended := x.saved :: c.suspended, voices := c.voices.set v none }) rfl rfl rfl m
      rw [hx, voiceCount_some, voiceCount_none] at hset
      omega
    · rw [he]
      refine h.of_fewer h.suspended h.queue h.ordered fun m => ?_
      have hset := ChimeEngine.numbers_count_set
        (t := { c with voices := c.voices.set v (some { x with releasing := true }) }) rfl rfl rfl m
      simp only [hx, voiceCount_some] at hset
      omega

theorem ChimeEngine.Ranked.holdAll (h : c.Ranked chimes) (vs : List VoiceId) :
    (vs.foldl (ChimeEngine.holdVoice chimes) c).Ranked chimes := by
  induction vs generalizing c with
  | nil => exact h
  | cons v rest ih => exact ih (h.holdVoice v)

/-- Once every voice below the level is held back, none is SOUNDING below it. -/
theorem ChimeEngine.holdAll_admitting {vs : List VoiceId} (horder : c.HoldOrder chimes c.level vs)
    (hall : ∀ v x, c.Below chimes c.level v x → v ∈ vs) :
    (vs.foldl (ChimeEngine.holdVoice chimes) c).Admitting chimes := by
  intro v x hx hs
  rw [(c.holdAll_from chimes vs).level]
  by_cases hv : v ∈ vs
  · obtain ⟨y, hy, -⟩ := horder.below v hv
    rcases ChimeEngine.holdAll_held (chimes := chimes) horder.nodup hv hy with ⟨hheld, -⟩ | ⟨-, hheld, -⟩
    · obtain rfl := Option.some.inj (hheld.symm.trans hx)
      cases hs
    · exact absurd (hheld.symm.trans hx) nofun
  · rw [c.holdAll_other chimes hv] at hx
    exact Nat.not_lt.mp fun hlow => hv (hall v x ⟨hx, hs, hlow⟩)

theorem ChimeEngine.InOrder.refill (h : c.InOrder chimes) (look : VoiceId → Bool) (v : VoiceId) :
    (c.refill chimes look v).InOrder chimes := by
  rw [ChimeEngine.refill_eq]
  split
  next hlook => exact h.takeCandidate hlook.2
  next => exact h

theorem ChimeEngine.InOrder.refillAll (h : c.InOrder chimes) (look : VoiceId → Bool) :
    (c.refillAll chimes look).InOrder chimes :=
  ((h.refill look .v0).refill look .v1).refill look .v2

theorem ChimeEngine.InOrder.setLevel (h : c.InOrder chimes) (l : Nat) : (c.setLevel chimes l).InOrder chimes := by
  have hranked : ChimeEngine.Ranked { c with level := l } chimes := ⟨h.suspended, h.queue, h.once, h.known, h.ordered⟩
  rcases lt_trichotomy c.level l with hl | hl | hl
  · obtain ⟨vs, horder, hall, hheld⟩ := ({ c with level := l } : ChimeEngine).holdBackNext_all chimes l
    rw [ChimeEngine.setLevel_raise hl, hheld]
    exact ChimeEngine.InOrder.refillAll ⟨hranked.holdAll vs, ChimeEngine.holdAll_admitting horder hall⟩ _
  · rwa [ChimeEngine.setLevel_same chimes hl.symm]
  · rw [ChimeEngine.setLevel_fall hl]
    exact ChimeEngine.InOrder.refillAll ⟨hranked, fun v x hx hs => hl.le.trans (h.admits v x hx hs)⟩ _

theorem ChimeEngine.InOrder.moveLevel (h : c.InOrder chimes) (l : Nat) : (c.moveLevel chimes l).InOrder chimes :=
  h.settleEnds.setLevel l

/-! Every voice changes, each on its chime (R154, R155, R161) -/

/-- The voices move within their chimes, and none becomes SOUNDING. -/
theorem ChimeEngine.InOrder.mapVoices (h : c.InOrder chimes) {f : Voice → Voice} (hchime : ∀ x, (f x).chime = x.chime)
    (hsounds : ∀ x, (f x).releasing = false → x.releasing = false) :
    ChimeEngine.InOrder { c with voices := c.voices.map fun x => x.map f } chimes := by
  have hone : ∀ y m, voiceCount (y.map f) m = voiceCount y m := by
    rintro (_ | x) m
    · rfl
    · simp [hchime]
  refine ⟨h.of_fewer h.suspended h.queue h.ordered fun m => ?_, fun v x hx hs => ?_⟩
  · simp only [ChimeEngine.numbers_count, voicesCount, PerVoice.map, hone, le_refl]
  · rw [PerVoice.get_map] at hx
    obtain ⟨y, hy, rfl⟩ := Option.map_eq_some_iff.mp hx
    rw [hchime]
    exact h.admits v y hy (hsounds y hs)

/-- Chimes leave the suspend list and the queue (R161). -/
theorem ChimeEngine.InOrder.fewer (h : c.InOrder chimes) {suspended : List Saved} {queue : List Nat}
    (hs : suspended.Sublist c.suspended) (hq : queue.Sublist c.queue) :
    ChimeEngine.InOrder { c with suspended := suspended, queue := queue } chimes := by
  refine ⟨h.of_fewer (hs.length_le.trans h.suspended) (hq.length_le.trans h.queue) ?_ fun m => ?_, h.admits⟩
  · have hordered := h.ordered
    rw [queueOrdered_iff_pairwise] at hordered ⊢
    exact hordered.sublist hq
  · have hsuspended := (hs.map fun p => p.chime).count_le m
    have hqueue := hq.count_le m
    simp only [ChimeEngine.numbers_count]
    omega

theorem ChimeEngine.InOrder.stop (h : c.InOrder chimes) (n : Nat) : (c.stop n).InOrder chimes := by
  have hfewer := h.fewer (c.suspended.filter_sublist (p := fun p => decide (p.chime ≠ n)))
    (c.queue.filter_sublist (p := fun m => decide (m ≠ n)))
  refine hfewer.mapVoices (fun x => ?_) fun x => ?_
  · split <;> rfl
  · split
    · exact nofun
    · exact id

/-- With no chime held the engine is in order (R162). -/
theorem ChimeEngine.inOrder_of_idle (hvoices : c.voices = ⟨none, none, none⟩) (hsuspended : c.suspended = [])
    (hqueue : c.queue = []) : c.InOrder chimes := by
  have hnone : ∀ m, c.numbers.count m = 0 := fun m => by
    simp [ChimeEngine.numbers_count, voicesCount, hvoices, hsuspended, hqueue]
  refine ⟨⟨by simp [hsuspended], by simp [hqueue], fun m => by simp [hnone], fun m hm => by simp [hnone] at hm,
    by rw [hqueue]; rfl⟩, fun v x hx => ?_⟩
  cases v <;> simp [hvoices, PerVoice.get] at hx

/-! The table changes (R20, R21) -/

/-- New descriptors of chimes that the engine does not hold are nothing to it. -/
theorem ChimeEngine.InOrder.retable {chimes' : Table} (h : c.InOrder chimes)
    (hprio : ∀ n, c.holds n = true → prioOf chimes' n = prioOf chimes n) : c.InOrder chimes' := by
  have hqueued : ∀ n ∈ c.queue, prioOf chimes' n = prioOf chimes n := fun n hn => hprio n <| by
    have := List.count_pos_iff.mpr hn
    rw [ChimeEngine.holds_iff, ChimeEngine.numbers_count]
    omega
  have hvoiced : ∀ v x, c.voices.get v = some x → prioOf chimes' x.chime = prioOf chimes x.chime := fun v x hx =>
    hprio x.chime <| by
      have := voicesCount_pos.mpr ⟨v, x, hx, rfl⟩
      rw [ChimeEngine.holds_iff, ChimeEngine.numbers_count]
      omega
  refine ⟨⟨h.suspended, h.queue, h.once, h.known, ?_⟩, fun v x hx hs => ?_⟩
  · have hordered := h.ordered
    rw [queueOrdered_iff_pairwise] at hordered ⊢
    refine hordered.imp_of_mem fun ha hb hab => ?_
    rwa [hqueued _ ha, hqueued _ hb]
  · rw [hvoiced v x hx]
    exact h.admits v x hx hs

end Engine

end Sys2Proof.Machine
end

section
/-! Every command keeps the Chime Engine in order (O59). -/

namespace Sys2Proof.Machine

open Sys2Proof

/-- From one state to another the Chime Engine stays in order by the descriptors of its table. A change that
leaves both as they were keeps it by `id`. -/
structure ChimesKept (s t : State) : Prop where
  inOrder : s.chimes.InOrder s.tables.chimes → t.chimes.InOrder t.tables.chimes

section Steps

variable {s t u : State}

/-- An operation that keeps the engine in order, behind a change that is nothing to it. -/
theorem ChimesKept.behind (k : ChimesKept t u)
    (h : s.chimes.InOrder s.tables.chimes → t.chimes.InOrder t.tables.chimes) : ChimesKept s u := ⟨k.inOrder ∘ h⟩

theorem ChimesKept.trans (h : ChimesKept s t) (k : ChimesKept t u) : ChimesKept s u := ⟨k.inOrder ∘ h.inOrder⟩

/-! What other blocks ask of the engine -/

theorem State.requestChime_chimesKept (s : State) (n : Nat) : ChimesKept s (s.requestChime n) := ⟨fun h => h.request n⟩

theorem State.setAdmission_chimesKept (s : State) (l : Nat) : ChimesKept s (s.setAdmission l) := ⟨fun h => h.moveLevel l⟩

theorem State.settleEnds_chimesKept (s : State) : ChimesKept s s.settleEnds := ⟨fun h => h.settleEnds⟩

theorem State.deny_chimesKept (s : State) : ChimesKept s s.deny := s.requestChime_chimesKept _

/-! Operations that are nothing to the Chime Engine -/

theorem State.bump_chimesKept (s : State) (i n : Nat) : ChimesKept s (s.bump i n) := ⟨id⟩

theorem State.offerNotice_chimesKept (s : State) (k : NoticeKind) (d v : Word) : ChimesKept s (s.offerNotice k d v) := ⟨id⟩

theorem State.offerPicture_chimesKept (s : State) (p : UpPicture) : ChimesKept s (s.offerPicture p) := by
  rcases s.offerPicture_cases p with ⟨-, he⟩ | ⟨-, -, he⟩ | ⟨-, -, he⟩
  all_goals rw [he]; exact ⟨id⟩

theorem State.handOff_chimesKept (s : State) (r : Reply) : ChimesKept s (s.handOff r) := by
  unfold State.handOff
  split <;> exact ⟨id⟩

theorem State.finish_chimesKept (s : State) (r : QueuedRequest) (code : ReplyCode) (data : List Word)
    (k : Option RestartKind) : ChimesKept s (s.finish r code data k) := by
  unfold State.finish
  split
  · split
    · exact s.handOff_chimesKept _
    · exact ⟨id⟩
  · split <;> exact ⟨id⟩

theorem State.emptySlot_chimesKept (s : State) : ChimesKept s s.emptySlot := by
  unfold State.emptySlot
  split <;> exact ⟨id⟩

theorem State.storeLine_chimesKept (s : State) (d : Side) (p : Prog) (tag : Tag) (line : Nat) (pixels : List Rgb) :
    ChimesKept s (s.storeLine d p tag line pixels) := by
  simp only [State.storeLine]
  split <;> exact ⟨id⟩

theorem State.fanLine_chimesKept (s : State) (d : Side) (p : Prog) (tag : Tag) (line : Nat) (pixels : List Rgb) :
    ChimesKept s (s.fanLine d p tag line pixels) := by
  unfold State.fanLine
  split
  · exact s.storeLine_chimesKept ..
  · exact ⟨id⟩

theorem State.haltDisplay_chimesKept (s : State) (d : Side) (p : Prog) : ChimesKept s (s.haltDisplay d p) := by
  simp only [State.haltDisplay]
  split <;> exact ⟨id⟩

theorem State.purgeTag_chimesKept (s : State) (d : Side) (p : Prog) (tag : Tag) : ChimesKept s (s.purgeTag d p tag) := by
  simp only [State.purgeTag]
  split <;> exact ⟨id⟩

theorem State.countMalformed_chimesKept (s : State) (d : Side) (p : Prog) : ChimesKept s (s.countMalformed d p) := by
  unfold State.countMalformed
  split <;> exact ⟨id⟩

theorem State.takeFormat_chimesKept (s : State) (p : Prog) (w h : Nat) : ChimesKept s (s.takeFormat p w h) := by
  simp only [State.takeFormat]
  split
  · exact ⟨id⟩
  · exact (((State.haltDisplay_chimesKept _ .a p).trans (State.haltDisplay_chimesKept _ .b p)).behind id)

theorem State.takeTag_chimesKept (s : State) (p : Prog) (tag : Tag) : ChimesKept s (s.takeTag p tag) := by
  simp only [State.takeTag]
  split
  · exact ⟨id⟩
  · exact ((s.purgeTag_chimesKept .a p tag).trans (State.purgeTag_chimesKept _ .b p tag)).trans ⟨id⟩

theorem State.pictureMark_chimesKept (s : State) (p : Prog) (tag : Tag) (w h : Nat) :
    ChimesKept s (s.pictureMark p tag w h) := by
  unfold State.pictureMark
  split
  · exact (s.takeFormat_chimesKept p w h).trans (State.takeTag_chimesKept _ p tag)
  · exact (s.countMalformed_chimesKept .a p).trans (State.countMalformed_chimesKept _ .b p)

theorem State.soundArrives_chimesKept (s : State) (p : Prog) (frames : List Stereo) :
    ChimesKept s (s.soundArrives p frames) := by
  simp only [State.soundArrives]
  split
  · exact ⟨id⟩
  · split <;> split <;> exact ⟨id⟩

theorem State.offerRequest_chimesKept (s : State) (r : QueuedRequest) : ChimesKept s (s.offerRequest r) := by
  unfold State.offerRequest
  split <;> exact ⟨id⟩

theorem State.linkAlive_chimesKept (s : State) : ChimesKept s s.linkAlive := by
  simp only [State.linkAlive]
  split <;> exact ⟨id⟩

theorem State.dispatch_chimesKept (s : State) (p : Parcel) : ChimesKept s (s.dispatch p) := by
  unfold State.dispatch
  split
  case h_1 => exact ⟨id⟩
  case h_2 =>
    split
    · exact (s.fanLine_chimesKept .a ..).trans (State.fanLine_chimesKept _ .b ..)
    · exact ⟨id⟩
  case h_3 =>
    split
    · exact s.pictureMark_chimesKept ..
    · exact ⟨id⟩
  case h_4 =>
    split
    · exact s.soundArrives_chimesKept _ _
    · exact ⟨id⟩
  case h_5 =>
    split
    · exact ⟨id⟩
    · exact s.offerRequest_chimesKept _

theorem State.receive_chimesKept (s : State) (words : List Word) : ChimesKept s (s.receive words) := by
  unfold State.receive
  split
  · exact ⟨id⟩
  · exact ⟨id⟩
  · exact s.linkAlive_chimesKept.trans (State.dispatch_chimesKept _ _)

theorem State.linkDown_chimesKept (s : State) : ChimesKept s s.linkDown :=
  ((State.emptySlot_chimesKept _).trans (State.bump_chimesKept _ _ _)).behind id

theorem State.beginParcel_chimesKept (s : State) : ChimesKept s s.beginParcel := by
  simp only [State.beginParcel]
  split
  · exact ⟨id⟩
  · split
    · exact ⟨id⟩
    · split
      · exact s.emptySlot_chimesKept.trans ⟨id⟩
      · split <;> exact ⟨id⟩

/-! The rear view (R100 to R103) -/

theorem State.followView_chimesKept (s : State) : ChimesKept s s.followView := by
  unfold State.followView
  split <;> exact ⟨id⟩

theorem State.refreshView_chimesKept (s : State) : ChimesKept s s.refreshView := by
  unfold State.refreshView
  split
  · exact ⟨id⟩
  · exact s.followView_chimesKept.trans ⟨id⟩

theorem State.changeReverse_chimesKept (s : State) (r : ReverseState) (linger : Option Nat) :
    ChimesKept s (s.changeReverse r linger) :=
  ((State.followView_chimesKept _).trans (State.offerNotice_chimesKept _ _ _ _)).behind id

/-- A change of reverse state moves the admission level, and ON requests its chime behind it (R101). -/
theorem State.evalReverse_chimesKept (s : State) : ChimesKept s s.evalReverse := by
  have moved : ∀ r linger l, ChimesKept s ((s.changeReverse r linger).setAdmission l) := fun r linger l =>
    (s.changeReverse_chimesKept r linger).trans (State.setAdmission_chimesKept _ l)
  unfold State.evalReverse
  split
  · exact (moved _ _ _).trans (State.requestChime_chimesKept _ _)
  · exact moved _ _ _
  · split
    · exact moved _ _ _
    · exact moved _ _ _
  · exact ⟨id⟩

theorem State.reverseSample_chimesKept (s : State) (x : Bool) : ChimesKept s (s.reverseSample x) := by
  simp only [State.reverseSample]
  split
  · exact ⟨id⟩
  · exact (State.evalReverse_chimesKept _).behind id

theorem State.reverseSamples_chimesKept (s : State) (samples : List Bool) :
    ChimesKept s (samples.foldl State.reverseSample s) := by
  induction samples generalizing s with
  | nil => exact ⟨id⟩
  | cons x rest ih => exact (s.reverseSample_chimesKept x).trans (ih _)

theorem State.calSamples_chimesKept (s : State) (samples : List Bool) :
    ChimesKept s (samples.foldl State.calSample s) := by
  have sampled : ∀ (u : State) (x : Bool), ChimesKept u (u.calSample x) := fun u x => by
    simp only [State.calSample]
    split <;> exact ⟨id⟩
  induction samples generalizing s with
  | nil => exact ⟨id⟩
  | cons x rest ih => exact (sampled s x).trans (ih _)

theorem State.setSteer_chimesKept (s : State) (x : Steering) : ChimesKept s (s.setSteer x) := by
  simp only [State.setSteer]
  split <;> exact ⟨id⟩

/-! The camera -/

theorem State.swapCameraBank_chimesKept (s : State) : ChimesKept s s.swapCameraBank := by
  simp only [State.swapCameraBank]
  split
  · exact (State.refreshView_chimesKept _).behind id
  · exact ⟨id⟩

theorem State.cameraMark_chimesKept (s : State) : ChimesKept s s.cameraMark := by
  unfold State.cameraMark
  split
  · exact (State.offerPicture_chimesKept _ _).behind id
  · exact ⟨id⟩

theorem State.cameraFrameStart_chimesKept (s : State) : ChimesKept s s.cameraFrameStart := by
  have begun : ∀ (u : State) (swapped : Bool), ChimesKept u (u.beginCameraFrame swapped) := fun _ _ => ⟨id⟩
  exact (s.swapCameraBank_chimesKept.trans (begun _ _)).trans (State.cameraMark_chimesKept _)

theorem State.frameSync_chimesKept (s : State) (lineToo : Bool) : ChimesKept s (s.frameSync lineToo) := by
  have started : ∀ u : State, ChimesKept s u → ChimesKept s u.cameraFrameStart.startWatch :=
    fun u h => (h.trans u.cameraFrameStart_chimesKept).trans ⟨id⟩
  simp only [State.frameSync]
  split
  · exact ⟨id⟩
  · simp only [State.syncAcquiring]
    split
    · exact ⟨id⟩
    · exact ⟨id⟩
    · split
      · exact started _ ⟨id⟩
      · exact ⟨id⟩
  · simp only [State.syncLocked]
    split
    · split
      · exact ⟨id⟩
      · exact started _ ⟨id⟩
    · exact started _ ⟨id⟩
    · exact started _ ⟨id⟩

theorem State.watchLocked_chimesKept (s : State) : ChimesKept s s.watchLocked := by
  simp only [State.watchLocked]
  split <;> exact ⟨id⟩

theorem State.completeRow_chimesKept (s : State) (kind : RowKind) (y : Nat) (pixels : List Rgb) :
    ChimesKept s (s.completeRow kind y pixels) := by
  unfold State.completeRow State.bufferRow
  split <;> exact ⟨id⟩

theorem State.sendRow_chimesKept (s : State) (row : CameraRow) : ChimesKept s (s.sendRow row) := by
  unfold State.sendRow
  split
  · split
    · exact s.offerPicture_chimesKept _
    · exact ⟨id⟩
  · exact ⟨id⟩

/-! The menus: a key asks the engine for one chime at most (R129 to R136) -/

theorem State.menuKey_chimesKept (s : State) (seat : Side) : ChimesKept s (s.menuKey seat) := by
  unfold State.menuKey
  split
  · split
    · exact s.deny_chimesKept
    · exact ⟨id⟩
  · exact ⟨id⟩

theorem State.moveKey_chimesKept (s : State) (seat : Side) (find : PageRecord → Table → Option Nat → Option Nat) :
    ChimesKept s (s.moveKey seat find) := by
  unfold State.moveKey
  split
  · exact ⟨id⟩
  · simp only
    split
    · exact (State.requestChime_chimesKept _ _).behind id
    · exact s.deny_chimesKept

theorem State.itemAction_chimesKept (s : State) (seat : Side) (e : PageEntry) (item : Nat) :
    ChimesKept s (s.itemAction seat e item) := by
  have asked : ∀ (u : State) (n : Nat), ChimesKept s u → ChimesKept s (u.requestChime n) :=
    fun u n h => h.trans (u.requestChime_chimesKept n)
  simp only [State.itemAction]
  split
  case h_1 =>
    split
    · exact s.deny_chimesKept
    · exact asked _ _ ⟨id⟩
  case h_2 => exact asked _ _ ⟨id⟩
  case h_3 => exact asked _ _ ⟨id⟩
  case h_4 =>
    unfold State.routeAction
    split
    · exact asked _ _ ⟨id⟩
    · exact s.deny_chimesKept
  case h_5 => exact asked _ _ ⟨id⟩
  case h_6 =>
    simp only [State.notifyAction]
    split
    · exact s.deny_chimesKept
    · split
      · exact asked _ _ ⟨id⟩
      · exact s.deny_chimesKept
  case h_7 => exact asked _ _ ⟨id⟩
  case h_8 => exact s.deny_chimesKept

theorem State.selectKey_chimesKept (s : State) (seat : Side) : ChimesKept s (s.selectKey seat) := by
  unfold State.selectKey
  split
  · exact ⟨id⟩
  · simp only
    split
    · exact s.deny_chimesKept
    · split
      · exact s.itemAction_chimesKept _ _ _
      · exact s.deny_chimesKept

theorem State.volumeKey_chimesKept (s : State) (seat : Side) (up : Bool) : ChimesKept s (s.volumeKey seat up) := by
  have stepped : ∀ n, ChimesKept s (s.stepTo seat n) := fun n =>
    (State.requestChime_chimesKept _ _).behind id
  simp only [State.volumeKey]
  split
  · split
    · exact (stepped _).trans ⟨id⟩
    · exact s.deny_chimesKept.trans ⟨id⟩
  · split
    · exact (stepped _).trans ⟨id⟩
    · exact s.deny_chimesKept.trans ⟨id⟩

theorem State.pressKey_chimesKept (s : State) (seat : Side) (key : Key) : ChimesKept s (s.pressKey seat key) := by
  have effect : ChimesKept s (s.keyEffect seat key) := by
    cases key with
    | menu => exact s.menuKey_chimesKept seat
    | up => exact s.moveKey_chimesKept seat upFrom
    | down => exact s.moveKey_chimesKept seat downFrom
    | select => exact s.selectKey_chimesKept seat
    | back => exact ⟨id⟩
    | volUp => exact s.volumeKey_chimesKept seat true
    | volDown => exact s.volumeKey_chimesKept seat false
  exact effect.trans ⟨id⟩

theorem State.handPress_chimesKept (s : State) (seat : Side) (key : Key) : ChimesKept s (s.handPress seat key) := by
  unfold State.handPress
  split
  · exact (State.pressKey_chimesKept _ seat key).behind id
  · exact s.pressKey_chimesKept seat key

theorem State.keySamples_chimesKept (s : State) (seat : Side) (key : Key) (samples : List Bool) :
    ChimesKept s (samples.foldl (fun s x => s.keySample seat key x) s) := by
  have sampled : ∀ (u : State) (high : Bool), ChimesKept u (u.keySample seat key high) := fun u high => by
    simp only [State.keySample]
    split
    · exact ⟨id⟩
    · split
      · split
        · exact (State.handPress_chimesKept _ seat key).behind id
        · exact ⟨id⟩
      · exact ⟨id⟩
  induction samples generalizing s with
  | nil => exact ⟨id⟩
  | cons x rest ih => exact (sampled s x).trans (ih _)

/-! Displays -/

theorem State.latchComposition_chimesKept (s : State) (d : Side) : ChimesKept s (s.latchComposition d) := by
  simp only [State.latchComposition]
  split <;> cases d <;> exact ⟨id⟩

theorem State.latchRoute_chimesKept (s : State) (d : Side) : ChimesKept s (s.latchRoute d) := by
  simp only [State.latchRoute]
  split <;> exact ⟨id⟩

theorem State.latchMenu_chimesKept (s : State) (d : Side) : ChimesKept s (s.latchMenu d) := ⟨id⟩

theorem State.latchMirror_chimesKept (s : State) (d : Side) : ChimesKept s (s.latchMirror d) := by
  unfold State.latchMirror
  split
  · exact ⟨id⟩
  · split
    · exact (State.offerPicture_chimesKept _ _).behind id
    · exact ⟨id⟩

theorem State.displayFrameStart_chimesKept (s : State) (d : Side) : ChimesKept s (s.displayFrameStart d) :=
  (((s.latchComposition_chimesKept d).trans (State.latchRoute_chimesKept _ d)).trans
    (State.latchMenu_chimesKept _ d)).trans (State.latchMirror_chimesKept _ d)

theorem State.windowRow_chimesKept (s : State) (d : Side) (scale r : Nat) : ChimesKept s (s.windowRow d scale r).1 := by
  simp only [State.windowRow]
  split
  · exact ⟨id⟩
  · split
    · exact ⟨id⟩
    · split
      · exact ⟨id⟩
      · split <;> exact ⟨id⟩

theorem State.activeRow_chimesKept (s : State) (d : Side) (comp : Table) (y : Nat) :
    ChimesKept s (s.activeRow d comp y) := by
  have read : ChimesKept s (s.readRow d comp y).1 := by
    unfold State.readRow
    split
    · exact ⟨id⟩
    · exact s.windowRow_chimesKept _ _ _
  have mirrored : ∀ u : State, ChimesKept u (u.mirrorRow d y) := fun u => by
    unfold State.mirrorRow
    split
    · exact u.offerPicture_chimesKept _
    · exact ⟨id⟩
  have put : ∀ (u : State) (row : Option RowSource), ChimesKept u (u.putRow d comp row y) := fun _ _ => ⟨id⟩
  exact (read.trans (put _ _)).trans (mirrored _)

/-! The sample tick (R150) -/

/-- A tick moves every voice within its chime. -/
theorem State.sampleTick_chimesKept (s : State) : ChimesKept s s.sampleTick := by
  refine ⟨fun h => ?_⟩
  have htable : s.sampleTick.tables.chimes = s.tables.chimes := by rw [s.sampleTick_ticked.tables]
  rw [htable, State.sampleTick_chimes]
  exact h.settleEnds.mapVoices (fun x => (x.tick_keeps _ _).1) fun x hx => (x.tick_keeps _ _).2.1 ▸ hx

/-! Requests -/

/-- A run of words that lies elsewhere leaves a chime its priority. -/
theorem prioOf_writeFrom (chimes : Table) {i n : Nat} (ws : List Word) (h : 8 * n + 5 < i ∨ i + ws.length ≤ 8 * n + 5) :
    prioOf (chimes.writeFrom i ws) n = prioOf chimes n := by
  simp only [prioOf, chimeDesc, Table.nat, Table.read_writeFrom_outside chimes ws h]

/-- A run that passes the tests of R20 has no word that is IN_USE. -/
theorem State.putRefusal_inUse {i : TableId} {k : Nat} {ws : List Word} (h : s.putRefusal i k ws = none) (hne : ws ≠ []) :
    ∀ j < ws.length, s.wordInUse i (k + j) = false := by
  rw [State.putRefusal, if_neg hne] at h
  split_ifs at h with _ _ _ huse
  simpa [anyIndex] using huse

/-- A PUT of CHIMES writes no descriptor of a chime that the engine holds (R21, R152). -/
theorem State.putChimes_chimesKept {k : Nat} {ws : List Word} (h : s.putRefusal .chimes k ws = none) (hne : ws ≠ []) :
    ChimesKept s (s.putWords .chimes k ws) := by
  refine ⟨fun hs => hs.retable fun n hn => prioOf_writeFrom _ ws ?_⟩
  by_contra hin
  have hfree := State.putRefusal_inUse h hne (8 * n + 5 - k) (by omega)
  have hindex : (k + (8 * n + 5 - k)) / 8 = n := by omega
  simp only [State.wordInUse, hindex, hn] at hfree
  cases hfree

theorem State.putWords_chimesKept {i : TableId} {k : Nat} {ws : List Word} (h : s.putRefusal i k ws = none)
    (hne : ws ≠ []) : ChimesKept s (s.putWords i k ws) := by
  cases i
  case control =>
    simp only [State.putWords, State.putControl]
    split
    · exact (State.evalReverse_chimesKept _).behind id
    · exact ⟨id⟩
  case steering =>
    simp only [State.putWords, State.putSteering]
    split
    · exact (State.setSteer_chimesKept _ _).behind id
    · exact ⟨id⟩
  case chimes => exact State.putChimes_chimesKept h hne
  all_goals exact ⟨id⟩

theorem State.put_chimesKept (s : State) (ws : List Word) : ChimesKept s (s.put ws).state := by
  have ready : ChimesKept s (s.readyFor s.unit.pointer.table) := by
    unfold State.readyFor
    split
    · exact s.settleEnds_chimesKept
    · exact ⟨id⟩
  have written : ∀ (u : State) (i : TableId) (k : Nat) (run : List Word), u.putRefusal i k run = none →
      ChimesKept u ((if run = [] then u else u.putWords i k run).setPointer i (k + run.length)) := by
    intro u i k run hpass
    split
    · exact ⟨id⟩
    next hne => exact (State.putWords_chimesKept hpass hne).trans ⟨id⟩
  simp only [State.put]
  split
  · exact ready
  next hpass => split <;> exact ready.trans (written _ _ _ _ hpass)

theorem State.commit_chimesKept (s : State) (g : GroupId) : ChimesKept s (s.commit g).state := by
  simp only [State.commit]
  split
  · exact ⟨id⟩
  · split
    · exact ⟨id⟩
    · split <;> cases g <;> exact ⟨id⟩

theorem RequestName.body_chimesKept (n : RequestName) (r : QueuedRequest) (s : State) :
    ChimesKept s (n.body r s).state := by
  cases n
  case point =>
    simp only [RequestName.body, pointBody]
    split
    · exact ⟨id⟩
    · split <;> exact ⟨id⟩
  case put => exact s.put_chimesKept _
  case get =>
    simp only [RequestName.body, getBody, State.get]
    split <;> exact ⟨id⟩
  case commit => exact s.commit_chimesKept _
  case start =>
    simp only [RequestName.body, startBody]
    split <;> exact ⟨id⟩
  case restart => exact ⟨id⟩
  case vehicle => exact (State.evalReverse_chimesKept _).behind id
  case view => exact (State.refreshView_chimesKept _).behind id
  case hold => exact ⟨id⟩
  case release =>
    simp only [RequestName.body, releaseBody]
    split <;> exact ⟨id⟩
  case key => exact s.pressKey_chimesKept _ _
  case openPage =>
    simp only [RequestName.body, openPageBody]
    split <;> exact ⟨id⟩
  case chime =>
    simp only [RequestName.body, chimeBody]
    split
    · exact ⟨id⟩
    · exact s.requestChime_chimesKept _
  case stopChime => exact ⟨fun h => h.settleEnds.stop _⟩
  case resume =>
    simp only [RequestName.body, resumeBody]
    split <;> exact ⟨id⟩

theorem State.serve_chimesKept (s : State) (n : RequestName) : ChimesKept s (s.serve n n.body) := by
  have taken : ChimesKept s s.dequeue := ⟨id⟩
  unfold State.serve
  split
  · exact ⟨id⟩
  · split
    · refine taken.trans (ChimesKept.trans ?_ (State.finish_chimesKept _ _ _ _ _))
      unfold State.answer
      split
      · exact ⟨id⟩
      · exact n.body_chimesKept _ _
    · exact ⟨id⟩

/-! Resets and restarts: the engine is idle -/

theorem State.blank_chimesKept (s : State) (held : Option ResetKind) (strap : BitVec 4) (autocam : Bool)
    (cause : ResetCause) (sending : List Word) (freeRun : Option Nat) (outs : PerOutlet Stereo) (pending : List Instr) :
    ChimesKept s (State.blank held strap autocam cause sending freeRun outs pending) :=
  ⟨fun _ => ChimeEngine.inOrder_of_idle rfl rfl rfl⟩

theorem State.completeGroup_chimesKept (s : State) (g : GroupId) : ChimesKept s (s.completeGroup g) := by
  simp only [State.completeGroup]
  split <;> cases g <;> exact ⟨id⟩

theorem State.stopDisplay_chimesKept (s : State) (d : Side) : ChimesKept s (s.stopDisplay d) := by
  simp only [State.stopDisplay]
  split <;> exact ⟨id⟩

theorem State.mediaRestart_chimesKept (s : State) : ChimesKept s s.mediaRestart := by
  have silenced : ChimesKept s s.stopMediaSide := ⟨fun _ => ChimeEngine.inOrder_of_idle rfl rfl rfl⟩
  exact (((silenced.trans (State.completeGroup_chimesKept _ .composeA)).trans
    (State.completeGroup_chimesKept _ .composeB)).trans (State.stopDisplay_chimesKept _ .a)).trans
    (State.stopDisplay_chimesKept _ .b)

/-! Every command -/

theorem whenLive_chimesKept {f : State → State} (ht : whenLive s f = .next t) (hf : ChimesKept s (f s)) :
    ChimesKept s t := by
  cases ht
  split
  · exact hf
  · exact ⟨id⟩

theorem exec_chimesKept (c : Instr) (ht : exec c s = .next t) : ChimesKept s t := by
  have received : ∀ words, (whenLive s fun s => s.receive words) = .next t → ChimesKept s t :=
    fun words h => whenLive_chimesKept h (s.receive_chimesKept words)
  have served : ∀ n : RequestName, exec n.command s = .next t → ChimesKept s t :=
    fun n h => whenLive_chimesKept (exec_command n s ▸ h) (s.serve_chimesKept n)
  cases c
  all_goals simp only [exec] at ht
  case powerOnReset => cases ht; exact s.blank_chimesKept ..
  case pinReset => cases ht; exact s.blank_chimesKept ..
  case resetRelease stn autocam =>
    cases ht
    split
    · exact s.blank_chimesKept ..
    · exact ⟨id⟩
  case fullRestart =>
    refine whenLive_chimesKept ht ?_
    split
    · exact s.blank_chimesKept ..
    · exact ⟨id⟩
  case mediaRestart =>
    refine whenLive_chimesKept ht ?_
    split
    · exact s.mediaRestart_chimesKept
    · exact ⟨id⟩
  case discardedParcel words => exact received words ht
  case fill words => exact received words ht
  case pictureLine words => exact received words ht
  case pictureMark words => exact received words ht
  case sound words => exact received words ht
  case request words => exact received words ht
  case silenceTimerExpiry =>
    refine whenLive_chimesKept ht ?_
    split
    · exact s.linkDown_chimesKept
    · exact ⟨id⟩
  case parcelEnd => exact whenLive_chimesKept ht s.beginParcel_chimesKept
  case replyHandoff =>
    refine whenLive_chimesKept ht ?_
    split
    · exact s.handOff_chimesKept _
    · exact ⟨id⟩
  case point => exact served .point ht
  case put => exact served .put ht
  case get => exact served .get ht
  case commit => exact served .commit ht
  case start => exact served .start ht
  case restart => exact served .restart ht
  case vehicle => exact served .vehicle ht
  case view => exact served .view ht
  case hold => exact served .hold ht
  case release => exact served .release ht
  case key => exact served .key ht
  case openPage => exact served .openPage ht
  case chime => exact served .chime ht
  case stopChime => exact served .stopChime ht
  case resume => exact served .resume ht
  case displayFrameStart d =>
    refine whenLive_chimesKept ht ?_
    split
    · exact s.displayFrameStart_chimesKept d
    · exact ⟨id⟩
  case windowTop d =>
    refine whenLive_chimesKept ht ?_
    split <;> exact ⟨id⟩
  case activeRow d =>
    refine whenLive_chimesKept ht ?_
    split
    · exact s.activeRow_chimesKept d _ _
    · exact ⟨id⟩
  case windowBottom d =>
    refine whenLive_chimesKept ht ?_
    split <;> exact ⟨id⟩
  case filterSample a b ix => exact whenLive_chimesKept ht (s.setSteer_chimesKept _)
  case frameSync hs => exact whenLive_chimesKept ht (s.frameSync_chimesKept _)
  case lineSync clocks =>
    refine whenLive_chimesKept ht ?_
    split <;> exact ⟨id⟩
  case syncWatchExpiry =>
    refine whenLive_chimesKept ht ?_
    split
    · exact ⟨id⟩
    · split
      · exact s.watchLocked_chimesKept
      · exact ⟨id⟩
      · exact ⟨id⟩
  case freeRunExpiry =>
    refine whenLive_chimesKept ht ?_
    split
    · exact ⟨id⟩
    · exact s.cameraFrameStart_chimesKept.trans ⟨id⟩
  case cameraRow pixels =>
    refine whenLive_chimesKept ht ?_
    split
    · exact s.completeRow_chimesKept ..
    · exact ⟨id⟩
  case fillRow =>
    refine whenLive_chimesKept ht ?_
    split
    · exact s.completeRow_chimesKept ..
    · exact ⟨id⟩
  case generatedRow =>
    refine whenLive_chimesKept ht ?_
    split
    · exact s.completeRow_chimesKept ..
    · exact ⟨id⟩
  case rowDrawn =>
    refine whenLive_chimesKept ht ?_
    split
    · exact ⟨id⟩
    · exact (State.sendRow_chimesKept _ _).behind id
  case reverseLevelChange samples => exact whenLive_chimesKept ht (s.reverseSamples_chimesKept samples)
  case calLevelChange samples => exact whenLive_chimesKept ht (s.calSamples_chimesKept samples)
  case lingerExpiry =>
    refine whenLive_chimesKept ht ?_
    split
    · exact s.changeReverse_chimesKept .off none
    · exact ⟨id⟩
  case press seat key samples => exact whenLive_chimesKept ht (s.keySamples_chimesKept seat key samples)
  case keyRelease seat key samples => exact whenLive_chimesKept ht (s.keySamples_chimesKept seat key samples)
  case repeatTimerExpiry seat key =>
    refine whenLive_chimesKept ht ?_
    split
    · exact ⟨id⟩
    · split
      · exact (State.pressKey_chimesKept _ seat key).behind id
      · exact ⟨id⟩
  case timeoutExpiry seat =>
    refine whenLive_chimesKept ht ?_
    split <;> exact ⟨id⟩
  case bannerExpiry seat => exact whenLive_chimesKept ht ⟨id⟩
  case sampleTick => exact whenLive_chimesKept ht s.sampleTick_chimesKept
  case voiceNaturalEnd =>
    refine whenLive_chimesKept ht ?_
    split
    · exact ⟨fun h => h.endVoice _⟩
    · exact ⟨id⟩
  case releaseEnd =>
    refine whenLive_chimesKept ht ?_
    split
    · exact ⟨fun h => h.endVoice _⟩
    · exact ⟨id⟩
  case cabinTimeTick => exact whenLive_chimesKept ht ⟨id⟩
  case unknownRequestName =>
    refine whenLive_chimesKept ht ?_
    split
    · exact ⟨id⟩
    · split
      · exact (State.finish_chimesKept _ _ _ _ _).behind id
      · exact ⟨id⟩

theorem step_chimesKept (ht : step s = .next t) : ChimesKept s t := by
  unfold step at ht
  split at ht
  · cases ht; exact ⟨id⟩
  next c rest _ =>
    have taken : ChimesKept s { s with pending := rest } := ⟨id⟩
    exact taken.trans (exec_chimesKept c ht)

end Steps

/-- Settles O59: every command keeps the Chime Engine in order, since a start, a resumption and a place in a list each take
a chime that was nowhere or that gives up its old place, and no PUT reaches the descriptor of a chime that is held. -/
theorem stepKeepsChimesRanked : Obligations.StepKeepsChimesRanked := by
  intro s t _ hsound hadmits hordered ht
  have hs := (s.chimes.inOrder_iff s.tables.chimes).mpr ⟨hsound, hadmits, hordered⟩
  exact (t.chimes.inOrder_iff t.tables.chimes).mp ((step_chimesKept ht).inOrder hs)

end Sys2Proof.Machine
end

section
/-! The queue of commands: what one step does with each shape of the queue (O1). -/

namespace Sys2Proof.Machine

open Sys2Proof

section Queue

variable {s : State} {c : Instr} {rest : List Instr}

/-- The queue loses its front command before that command runs, so a command sees, and may change, only what waits behind
it. -/
theorem step_of_pending_cons (hfront : s.pending = c :: rest) : step s = exec c { s with pending := rest } := by
  rw [step, hfront]

/-- The part never stops for want of a command (log 2). -/
theorem step_of_pending_nil (hidle : s.pending = []) : step s = .next s := by
  rw [step, hidle]

end Queue

/-- Settles O1: the two shapes of the queue are the two branches of a step. -/
theorem stepRunsFrontCommand : Obligations.StepRunsFrontCommand :=
  ⟨fun _ _ _ => step_of_pending_cons, fun _ => step_of_pending_nil⟩

end Sys2Proof.Machine
end

section
/-! What the Table Store and the steering count promise together, and which writes keep it (O56). -/

namespace Sys2Proof.Machine

open Sys2Proof

/-! The promise -/

/-- The first `n` words of a table hold values that are legal for the table `id` (R21). -/
def Table.LegalTo (t : Table) (id : TableId) (n : Nat) : Prop := ∀ i < n, wordLegal id i (t.read i) = true

/-- Every table is in canonical form within its size, every checked word is legal, and the steering count lies within
the limit. -/
structure TableStore.Sound (t : TableStore) (count : Int) : Prop where
  control       : t.control.fits 32 = true
  raster        : t.raster.fits 32 = true
  route         : t.route.fits 8 = true
  steering      : t.steering.fits 16 = true
  pages         : t.pages.fits 256 = true
  items         : t.items.fits 5120 = true
  tiles         : t.tiles.fits 16384 = true
  palettes      : t.palettes.fits 128 = true
  chimes        : t.chimes.fits 256 = true
  waves         : t.waves.fits 65536 = true
  mixer         : t.mixer.fits 64 = true
  stats         : t.stats.fits 64 = true
  camera        : t.camera.fits 512 = true
  composeA      : t.composeA.fits 32 = true
  composeB      : t.composeB.fits 32 = true
  controlLegal  : t.control.LegalTo .control 21
  routeLegal    : t.route.LegalTo .route 5
  steeringLegal : t.steering.LegalTo .steering 6
  mixerLegal    : t.mixer.LegalTo .mixer 35
  low           : -(t.steering.nat 3 : Int) ≤ count
  high          : count ≤ t.steering.nat 3

theorem TableStore.legal_iff (t : TableStore) : t.legal = true ↔ t.control.LegalTo .control 21 ∧
    t.route.LegalTo .route 5 ∧ t.steering.LegalTo .steering 6 ∧ t.mixer.LegalTo .mixer 35 := by
  simp only [TableStore.legal, Table.LegalTo, Bool.and_eq_true, List.all_eq_true, List.mem_range, and_assoc]

theorem State.tablesSound_iff (s : State) : s.tables.Sound s.steer.count ↔
    s.tables.fits = true ∧ s.tables.legal = true ∧ s.countSound = true := by
  rw [TableStore.legal_iff, State.countSound, decide_eq_true_iff]
  simp only [TableStore.fits, Bool.and_eq_true, and_assoc]
  constructor
  · rintro ⟨h1, h2, h3, h4, h5, h6, h7, h8, h9, h10, h11, h12, h13, h14, h15, l1, l2, l3, l4, low, high⟩
    exact ⟨h1, h2, h3, h4, h5, h6, h7, h8, h9, h10, h11, h12, h13, h14, h15, l1, l2, l3, l4, low, high⟩
  · rintro ⟨h1, h2, h3, h4, h5, h6, h7, h8, h9, h10, h11, h12, h13, h14, h15, l1, l2, l3, l4, low, high⟩
    exact ⟨h1, h2, h3, h4, h5, h6, h7, h8, h9, h10, h11, h12, h13, h14, h15, l1, l2, l3, l4, low, high⟩

theorem Table.wf_of_fits {t : Table} {n : Nat} (h : t.fits n = true) : t.wf = true := by
  rw [Table.fits, Bool.and_eq_true] at h
  exact h.1

/-! Legal words -/

/-- A run is legal where each of its words is (R20 step 5). -/
theorem firstIllegal_none_iff (id : TableId) (i : Nat) (ws : List Word) : firstIllegal id i ws = none ↔
    ∀ k (hk : k < ws.length), wordLegal id (i + k) ws[k] = true := by
  induction ws generalizing i with
  | nil => simp [firstIllegal]
  | cons w ws ih =>
    rw [firstIllegal]
    split
    next hw =>
      rw [ih]
      refine ⟨fun h k hk => ?_, fun h k hk => ?_⟩
      · cases k with
        | zero => exact hw
        | succ k => simpa [Nat.add_assoc, Nat.add_comm 1 k] using h k (Nat.lt_of_succ_lt_succ hk)
      · simpa [Nat.add_assoc, Nat.add_comm 1 k] using h (k + 1) (Nat.succ_lt_succ hk)
    next hw => exact ⟨fun h => (nomatch h), fun h => absurd (h 0 (Nat.zero_lt_succ _)) hw⟩

theorem Table.LegalTo.writeFrom {t : Table} {id : TableId} {n i : Nat} {ws : List Word} (h : t.LegalTo id n)
    (hwf : t.wf = true) (hws : firstIllegal id i ws = none) : (t.writeFrom i ws).LegalTo id n := by
  intro j hj
  by_cases hin : i ≤ j ∧ j < i + ws.length
  · obtain ⟨k, rfl⟩ := Nat.exists_eq_add_of_le hin.1
    have hk : k < ws.length := by omega
    rw [Table.read_writeFrom_inside hwf i ws k hk]
    exact (firstIllegal_none_iff id i ws).mp hws k hk
  · rw [Table.read_writeFrom_outside _ _ (by omega)]
    exact h j hj

theorem Table.LegalTo.write {t : Table} {id : TableId} {n i : Nat} {w : Word} (h : t.LegalTo id n) (hwf : t.wf = true)
    (hw : wordLegal id i w = true) : (t.write i w).LegalTo id n :=
  h.writeFrom (ws := [w]) hwf ((firstIllegal_none_iff _ _ _).mpr fun k hk => by
    obtain rfl : k = 0 := Nat.lt_one_iff.mp hk
    exact hw)

/-! Banks -/

theorem Group.fits_iff (g : Group) (n : Nat) : g.fits n = true ↔ g.staging.fits n = true ∧ g.active.fits n = true :=
  Bool.and_eq_true_iff

theorem Group.frameStart_fits {g : Group} {n : Nat} (h : g.fits n = true) : g.frameStart.fits n = true := by
  rw [Group.fits_iff] at h
  unfold Group.frameStart
  split
  · exact (Group.fits_iff _ _).mpr h
  · exact (Group.fits_iff _ _).mpr h.symm
  · exact (Group.fits_iff _ _).mpr ⟨h.2, h.2⟩

theorem Group.complete_fits {g : Group} {n : Nat} (h : g.fits n = true) : g.complete.fits n = true := by
  rw [Group.fits_iff] at h
  unfold Group.complete
  split
  · exact (Group.fits_iff _ _).mpr h
  · exact (Group.fits_iff _ _).mpr ⟨h.1, h.1⟩
  · exact (Group.fits_iff _ _).mpr ⟨h.2, h.2⟩

theorem Group.commitNow_fits {g : Group} {n : Nat} (h : g.fits n = true) : g.commitNow.fits n = true :=
  (Group.fits_iff _ _).mpr ⟨((Group.fits_iff _ _).mp h).1, ((Group.fits_iff _ _).mp h).1⟩

/-- The size of a group's banks (Table 2-2). -/
def GroupId.bankSize : GroupId → Nat
  | .camera => 512
  | .composeA | .composeB => 32

section Writes

variable {t : TableStore} {count : Int}

theorem TableStore.Sound.group (h : t.Sound count) (g : GroupId) : (t.group g).fits g.bankSize = true := by
  cases g with
  | camera => exact h.camera
  | composeA => exact h.composeA
  | composeB => exact h.composeB

theorem TableStore.Sound.setGroup (h : t.Sound count) {g : GroupId} {b : Group} (hb : b.fits g.bankSize = true) :
    (t.setGroup g b).Sound count := by
  cases g with
  | camera => exact { h with camera := hb }
  | composeA => exact { h with composeA := hb }
  | composeB => exact { h with composeB := hb }

/-! Writes of the keys (R134, R136) -/

theorem TableStore.Sound.writeRoute (h : t.Sound count) {i : Nat} (hi : i < 8) {w : Word}
    (hw : wordLegal .route i w = true) : TableStore.Sound { t with route := t.route.write i w } count :=
  { h with
    route := Table.fits_write w h.route hi
    routeLegal := h.routeLegal.write (Table.wf_of_fits h.route) hw }

/-- A SWAP action moves words that are legal where they stood, and every ROUTE word has the same values (R21). -/
theorem TableStore.Sound.swapRoutes (h : t.Sound count) :
    TableStore.Sound { t with route := swapRoutes t.route } count := by
  have hlegal : ∀ i j, i < 5 → wordLegal .route j (t.route.read i) = true := fun i _ hi => h.routeLegal i hi
  exact (((h.writeRoute (i := 0) (by decide) (hlegal 1 0 (by decide))).writeRoute (i := 1) (by decide)
    (hlegal 0 1 (by decide))).writeRoute (i := 2) (by decide) (hlegal 3 2 (by decide))).writeRoute (i := 3) (by decide)
    (hlegal 2 3 (by decide))

theorem TableStore.Sound.writeStep (h : t.Sound count) (seat : Side) {n : Nat} (hn : n ≤ 20) :
    TableStore.Sound { t with mixer := t.mixer.write (stepWord seat) (BitVec.ofNat 16 n) } count :=
  have hsmall : (BitVec.ofNat 16 n).toNat ≤ 20 := by rw [BitVec.toNat_ofNat]; omega
  { h with
    mixer := Table.fits_write _ h.mixer (by cases seat <;> decide)
    mixerLegal := h.mixerLegal.write (Table.wf_of_fits h.mixer) (by cases seat <;> exact decide_eq_true hsmall) }

/-- The volume steps are 0 to 20 (Table 9-2). -/
theorem TableStore.Sound.step_le (h : t.Sound count) (seat : Side) : t.mixer.nat (stepWord seat) ≤ 20 := by
  have hlegal := h.mixerLegal (stepWord seat) (by cases seat <;> decide)
  cases seat <;> exact of_decide_eq_true hlegal

theorem TableStore.Sound.countUp (h : t.Sound count) {i : Nat} (hi : i < 64) (n : Nat) :
    TableStore.Sound { t with stats := countUp t.stats i n } count :=
  { h with stats := countUp_fits h.stats hi n }

end Writes

/-! The steering count (R82) -/

theorem clampCount_bounds {limit : Int} (h : 0 ≤ limit) (c : Int) :
    -limit ≤ clampCount limit c ∧ clampCount limit c ≤ limit := by
  unfold clampCount
  split_ifs <;> omega

/-- The count stays within the limit through a sample, which clamps every count it makes. -/
theorem Steering.sample_bounds {st : Steering} {setup : SteerSetup} (hlow : -setup.limit ≤ st.count)
    (hhigh : st.count ≤ setup.limit) (a b ix : Bool) :
    -setup.limit ≤ (st.sample setup a b ix).count ∧ (st.sample setup a b ix).count ≤ setup.limit := by
  have hlimit : 0 ≤ setup.limit := by omega
  have hdecode : ∀ f : Steering, f.count = st.count →
      -setup.limit ≤ (f.decode setup).count ∧ (f.decode setup).count ≤ setup.limit := by
    rintro f hf
    unfold Steering.decode
    split
    · exact hf ▸ ⟨hlow, hhigh⟩
    · split
      · exact clampCount_bounds hlimit _
      · exact hf ▸ ⟨hlow, hhigh⟩
    · split
      · exact clampCount_bounds hlimit _
      · exact clampCount_bounds hlimit _
  unfold Steering.sample
  split
  · exact ⟨hlow, hhigh⟩
  · simp only
    split
    · exact ⟨hlow, hhigh⟩
    · exact hdecode _ rfl

/-! A PUT (R20) -/

/-- A run that is not empty passes the tests of R20 just if it fails none of the five. -/
theorem State.putRefusal_none_iff {s : State} {id : TableId} {i : Nat} {ws : List Word} (hne : ws ≠ []) :
    s.putRefusal id i ws = none ↔ (∀ k < ws.length, wordWritable id (i + k) = true) ∧
      ¬ (id = .cameraActive ∧ s.bankWritable = false) ∧ s.groupBusy id = false ∧
      (∀ k < ws.length, s.wordInUse id (i + k) = false) ∧ firstIllegal id i ws = none := by
  have hwritable : (anyIndex i ws.length fun k => !wordWritable id k) = true ↔
      ¬ ∀ k < ws.length, wordWritable id (i + k) = true := by simp [anyIndex]
  have huse : anyIndex i ws.length (s.wordInUse id) = true ↔ ¬ ∀ k < ws.length, s.wordInUse id (i + k) = false := by
    simp [anyIndex]
  rw [State.putRefusal, if_neg hne]
  split_ifs with h1 h2 h3 h4
  · exact ⟨nofun, fun ⟨hwrite, _⟩ => absurd hwrite (hwritable.mp h1)⟩
  · exact ⟨nofun, fun ⟨_, hopen, _⟩ => absurd ⟨h2.1, by simpa using h2.2⟩ hopen⟩
  · exact ⟨nofun, fun ⟨_, _, hidle, _⟩ => absurd hidle (by simp [h3])⟩
  · exact ⟨nofun, fun ⟨_, _, _, hfree, _⟩ => absurd hfree (huse.mp h4)⟩
  · rw [Option.map_eq_none_iff]
    have h2' : ¬ (id = .cameraActive ∧ s.bankWritable = false) := by simpa using h2
    exact ⟨fun h => ⟨not_not.mp (mt hwritable.mpr h1), h2', Bool.not_eq_true _ ▸ h3, not_not.mp (mt huse.mpr h4), h⟩,
      fun ⟨_, _, _, _, hlegal⟩ => hlegal⟩

end Sys2Proof.Machine
end

section
/-! What a change from one state to another keeps of the tables' promises and of the media side at rest, operation by
operation (O56, O58). -/

namespace Sys2Proof.Machine

open Sys2Proof

/-- The tables stay sound and the service state as it was: all that an operation of the running media side need keep. -/
structure StoreKept (s t : State) : Prop where
  stored  : s.tables.Sound s.steer.count → t.tables.Sound t.steer.count
  service : t.unit.service = s.unit.service

/-- The media side at rest stays so as well. -/
structure RestKept (s t : State) : Prop extends StoreKept s t where
  rest : s.restSound = true → t.restSound = true

/-- What a whole event keeps, which may also change the service state. -/
structure EventKept (s t : State) : Prop where
  stored : s.tables.Sound s.steer.count → t.tables.Sound t.steer.count
  rest   : s.restSound = true → t.restSound = true

/-- What O58 promises of CAMERA_ONLY, clause by clause. -/
structure State.AtRest (s : State) : Prop where
  composeA : s.tables.composeA.state = .idle
  composeB : s.tables.composeB.state = .idle
  disp     : s.disp = ⟨stoppedDisplay, stoppedDisplay⟩
  menuA    : s.menus.a.stack = []
  menuB    : s.menus.b.stack = []
  rings    : s.rings = emptyRings
  formats  : s.formats = clearFormats

theorem State.restSound_iff (s : State) : s.restSound = true ↔ (s.media = false → s.AtRest) := by
  cases hm : s.media with
  | true => simp [State.restSound, hm]
  | false =>
    simp only [State.restSound, hm, Bool.false_or, Bool.and_eq_true, decide_eq_true_eq, List.isEmpty_iff, and_assoc]
    refine ⟨fun ⟨h1, h2, h3, h4, h5, h6, h7⟩ _ => ⟨h1, h2, h3, h4, h5, h6, h7⟩, fun h => ?_⟩
    obtain ⟨h1, h2, h3, h4, h5, h6, h7⟩ := h trivial
    exact ⟨h1, h2, h3, h4, h5, h6, h7⟩

theorem State.restSound_of_media {s : State} (h : s.media = true) : s.restSound = true := by simp [State.restSound, h]

section Steps

variable {s t u : State}

theorem StoreKept.refl (s : State) : StoreKept s s := ⟨id, rfl⟩

theorem StoreKept.trans (h : StoreKept s t) (k : StoreKept t u) : StoreKept s u :=
  ⟨k.stored ∘ h.stored, k.service.trans h.service⟩

theorem StoreKept.media (h : StoreKept s t) : t.media = s.media := by simp only [State.media, h.service]

theorem RestKept.refl (s : State) : RestKept s s := ⟨⟨id, rfl⟩, id⟩

theorem RestKept.trans (h : RestKept s t) (k : RestKept t u) : RestKept s u :=
  ⟨h.toStoreKept.trans k.toStoreKept, k.rest ∘ h.rest⟩

/-- A change that is nothing to the promises, before an operation. -/
theorem StoreKept.behind (k : StoreKept t u) (h : StoreKept s t) : StoreKept s u := h.trans k

theorem RestKept.behind (k : RestKept t u) (h : RestKept s t) : RestKept s u := h.trans k

/-- In MEDIA nothing need be at rest. -/
theorem StoreKept.inMedia (h : StoreKept s t) (hm : s.media = true) : RestKept s t :=
  ⟨h, fun _ => State.restSound_of_media (h.media.trans hm)⟩

theorem StoreKept.restKept (h : StoreKept s t) (hr : s.media = false → s.AtRest → t.AtRest) : RestKept s t :=
  ⟨h, fun hs => t.restSound_iff.mpr fun hm => by
    rw [h.media] at hm
    exact hr hm (s.restSound_iff.mp hs hm)⟩

theorem RestKept.event (h : RestKept s t) : EventKept s t := ⟨h.stored, h.rest⟩

theorem EventKept.trans (h : EventKept s t) (k : EventKept t u) : EventKept s u :=
  ⟨k.stored ∘ h.stored, k.rest ∘ h.rest⟩

/-! Shared operations -/

theorem State.bump_restKept (s : State) {i : Nat} (hi : i < 64) (n : Nat) : RestKept s (s.bump i n) :=
  ⟨⟨fun h => h.countUp hi n, rfl⟩, id⟩

theorem State.offerNotice_restKept (s : State) (k : NoticeKind) (d v : Word) :
    RestKept s (s.offerNotice k d v) := ⟨⟨id, rfl⟩, id⟩

theorem State.offerPicture_restKept (s : State) (p : UpPicture) : RestKept s (s.offerPicture p) := by
  rcases s.offerPicture_cases p with ⟨-, he⟩ | ⟨-, -, he⟩ | ⟨-, -, he⟩
  · rw [he]; exact s.bump_restKept (by decide) 1
  · rw [he]; exact ⟨⟨id, rfl⟩, id⟩
  · rw [he]; exact s.bump_restKept (by decide) 1

theorem State.emptySlot_restKept (s : State) : RestKept s s.emptySlot := by
  unfold State.emptySlot RequestUnit.report
  split
  · exact ⟨⟨id, rfl⟩, id⟩
  · split <;> exact ⟨⟨id, rfl⟩, id⟩

theorem State.handOff_restKept (s : State) (r : Reply) : RestKept s (s.handOff r) := by
  unfold State.handOff RequestUnit.handedOver RequestUnit.report
  split
  · split <;> exact ⟨⟨id, rfl⟩, id⟩
  · refine (s.bump_restKept (i := cntUpDiscards) (by decide) 1).trans ?_
    split <;> exact ⟨⟨id, rfl⟩, id⟩

theorem State.finish_restKept (s : State) (r : QueuedRequest) (code : ReplyCode) (data : List Word)
    (k : Option RestartKind) : RestKept s (s.finish r code data k) := by
  unfold State.finish
  split
  · split
    · exact s.handOff_restKept _
    · exact ⟨⟨id, rfl⟩, id⟩
  · split <;> exact ⟨⟨id, rfl⟩, id⟩

/-! Picture Ingest and the rings -/

theorem cntMalformed_lt (d : Side) : cntMalformed d ≤ 9 := by cases d <;> decide

theorem State.countDisplay_storeKept (s : State) (d : Side) {k : Nat} (hk : k < 5) (n : Nat) :
    StoreKept s (s.bump (cntMalformed d + k) n) :=
  (s.bump_restKept (by have := cntMalformed_lt d; omega) n).toStoreKept

theorem State.storeLine_storeKept (s : State) (d : Side) (p : Prog) (tag : Tag) (line : Nat) (pixels : List Rgb) :
    StoreKept s (s.storeLine d p tag line pixels) := by
  simp only [State.storeLine]
  split
  case h_1 => exact s.countDisplay_storeKept d (k := 0) (by decide) 1
  case h_2 => exact s.countDisplay_storeKept d (k := 1) (by decide) 1
  case h_3 => exact s.countDisplay_storeKept d (k := 2) (by decide) 1
  case h_4 => exact ⟨id, rfl⟩
  case h_5 => exact ⟨id, rfl⟩

theorem State.fanLine_storeKept (s : State) (d : Side) (p : Prog) (tag : Tag) (line : Nat) (pixels : List Rgb) :
    StoreKept s (s.fanLine d p tag line pixels) := by
  unfold State.fanLine
  split
  · exact s.storeLine_storeKept ..
  · exact ⟨id, rfl⟩

theorem State.haltDisplay_storeKept (s : State) (d : Side) (p : Prog) : StoreKept s (s.haltDisplay d p) := by
  simp only [State.haltDisplay]
  split <;> exact ⟨id, rfl⟩

theorem State.purgeTag_storeKept (s : State) (d : Side) (p : Prog) (tag : Tag) : StoreKept s (s.purgeTag d p tag) := by
  simp only [State.purgeTag]
  split
  · exact (State.countDisplay_storeKept _ d (k := 4) (by decide) _).behind ⟨id, rfl⟩
  · exact ⟨id, rfl⟩

theorem State.countMalformed_storeKept (s : State) (d : Side) (p : Prog) : StoreKept s (s.countMalformed d p) := by
  unfold State.countMalformed
  split
  · exact s.countDisplay_storeKept d (k := 0) (by decide) 1
  · exact ⟨id, rfl⟩

theorem State.takeFormat_storeKept (s : State) (p : Prog) (w h : Nat) : StoreKept s (s.takeFormat p w h) := by
  simp only [State.takeFormat]
  split
  · exact ⟨id, rfl⟩
  · exact ((State.haltDisplay_storeKept _ .a p).trans (State.haltDisplay_storeKept _ .b p)).behind ⟨id, rfl⟩

theorem State.takeTag_storeKept (s : State) (p : Prog) (tag : Tag) : StoreKept s (s.takeTag p tag) := by
  simp only [State.takeTag]
  split
  · exact ⟨id, rfl⟩
  · exact ((s.purgeTag_storeKept .a p tag).trans (State.purgeTag_storeKept _ .b p tag)).trans ⟨id, rfl⟩

theorem State.pictureMark_storeKept (s : State) (p : Prog) (tag : Tag) (w h : Nat) :
    StoreKept s (s.pictureMark p tag w h) := by
  unfold State.pictureMark
  split
  · exact (s.takeFormat_storeKept p w h).trans (State.takeTag_storeKept _ p tag)
  · exact (s.countMalformed_storeKept .a p).trans (State.countMalformed_storeKept _ .b p)

theorem State.soundArrives_storeKept (s : State) (p : Prog) (frames : List Stereo) :
    StoreKept s (s.soundArrives p frames) := by
  have counted : ∀ n, StoreKept s (if n = 0 then s else s.bump (cntSoundOverflow p) n) := by
    intro n
    split
    · exact ⟨id, rfl⟩
    · exact (s.bump_restKept (by have := p.isLt; simp only [cntSoundOverflow]; omega) n).toStoreKept
  simp only [State.soundArrives]
  split
  · exact ⟨id, rfl⟩
  · split
    · exact (counted _).trans ⟨id, rfl⟩
    · exact (counted _).trans ⟨id, rfl⟩

/-! The Link Port -/

theorem State.offerRequest_restKept (s : State) (r : QueuedRequest) : RestKept s (s.offerRequest r) := by
  unfold State.offerRequest
  split
  · exact ⟨⟨id, rfl⟩, id⟩
  · exact s.bump_restKept (by decide) 1

theorem State.linkAlive_restKept (s : State) : RestKept s s.linkAlive := by
  simp only [State.linkAlive]
  split <;> exact ⟨⟨id, rfl⟩, id⟩

/-- Pictures and sound are dispatched in MEDIA only (Table 1-5). -/
theorem State.dispatch_restKept (s : State) (p : Parcel) : RestKept s (s.dispatch p) := by
  unfold State.dispatch
  split
  case h_1 => exact ⟨⟨id, rfl⟩, id⟩
  case h_2 =>
    split
    next hm => exact ((s.fanLine_storeKept .a ..).trans (State.fanLine_storeKept _ .b ..)).inMedia hm
    next => exact ⟨⟨id, rfl⟩, id⟩
  case h_3 =>
    split
    next hm => exact (s.pictureMark_storeKept ..).inMedia hm
    next => exact ⟨⟨id, rfl⟩, id⟩
  case h_4 =>
    split
    next hm => exact (s.soundArrives_storeKept _ _).inMedia hm
    next => exact ⟨⟨id, rfl⟩, id⟩
  case h_5 =>
    split
    · exact ⟨⟨id, rfl⟩, id⟩
    · exact s.offerRequest_restKept _

theorem State.receive_restKept (s : State) (words : List Word) : RestKept s (s.receive words) := by
  unfold State.receive
  split
  · exact s.bump_restKept (by decide) 1
  · exact s.bump_restKept (by decide) 1
  · exact s.linkAlive_restKept.trans (State.dispatch_restKept _ _)

theorem State.linkDown_restKept (s : State) : RestKept s s.linkDown :=
  ((State.emptySlot_restKept _).trans (State.bump_restKept _ (i := cntUpDiscards) (by decide) _)).behind ⟨⟨id, rfl⟩, id⟩

theorem State.beginParcel_restKept (s : State) : RestKept s s.beginParcel := by
  simp only [State.beginParcel]
  split
  · exact ⟨⟨id, rfl⟩, id⟩
  · split
    · exact ⟨⟨id, rfl⟩, id⟩
    · split
      · exact s.emptySlot_restKept.trans ⟨⟨id, rfl⟩, id⟩
      · split <;> exact ⟨⟨id, rfl⟩, id⟩

/-! The rear view, the hold and the Steering Counter -/

theorem State.followView_restKept (s : State) : RestKept s s.followView := by
  unfold State.followView
  split <;> exact ⟨⟨id, rfl⟩, id⟩

theorem State.refreshView_restKept (s : State) : RestKept s s.refreshView := by
  unfold State.refreshView
  split
  · exact ⟨⟨id, rfl⟩, id⟩
  · exact s.followView_restKept.trans ⟨⟨id, rfl⟩, id⟩

theorem State.changeReverse_restKept (s : State) (r : ReverseState) (linger : Option Nat) :
    RestKept s (s.changeReverse r linger) :=
  ((State.followView_restKept _).trans (State.offerNotice_restKept _ _ _ _)).behind ⟨⟨id, rfl⟩, id⟩

theorem State.evalReverse_restKept (s : State) : RestKept s s.evalReverse := by
  unfold State.evalReverse
  split
  · exact (s.changeReverse_restKept .on none).trans ⟨⟨id, rfl⟩, id⟩
  · exact (s.changeReverse_restKept .on none).trans ⟨⟨id, rfl⟩, id⟩
  · split
    · exact (s.changeReverse_restKept .linger _).trans ⟨⟨id, rfl⟩, id⟩
    · exact (s.changeReverse_restKept .off none).trans ⟨⟨id, rfl⟩, id⟩
  · exact ⟨⟨id, rfl⟩, id⟩

theorem State.reverseSample_restKept (s : State) (x : Bool) : RestKept s (s.reverseSample x) := by
  simp only [State.reverseSample]
  split
  · exact ⟨⟨id, rfl⟩, id⟩
  · exact (State.evalReverse_restKept _).behind ⟨⟨id, rfl⟩, id⟩

theorem State.reverseSamples_restKept (s : State) (samples : List Bool) :
    RestKept s (samples.foldl State.reverseSample s) := by
  induction samples generalizing s with
  | nil => exact ⟨⟨id, rfl⟩, id⟩
  | cons x rest ih => exact (s.reverseSample_restKept x).trans (ih _)

theorem State.calSample_restKept (s : State) (x : Bool) : RestKept s (s.calSample x) := by
  simp only [State.calSample]
  split <;> exact ⟨⟨id, rfl⟩, id⟩

theorem State.calSamples_restKept (s : State) (samples : List Bool) : RestKept s (samples.foldl State.calSample s) := by
  induction samples generalizing s with
  | nil => exact ⟨⟨id, rfl⟩, id⟩
  | cons x rest ih => exact (s.calSample_restKept x).trans (ih _)

theorem State.setSteer_restKept (s : State) (x : Steering)
    (hx : s.tables.Sound s.steer.count → s.tables.Sound x.count) : RestKept s (s.setSteer x) := by
  rw [State.setSteer_eq]
  exact ⟨⟨hx, rfl⟩, id⟩

theorem State.filterSample_restKept (s : State) (a b ix : Bool) :
    RestKept s (s.setSteer (s.steer.sample (steerSetup s.tables.steering) a b ix)) :=
  s.setSteer_restKept _ fun h =>
    have hbounds := Steering.sample_bounds (setup := steerSetup s.tables.steering) h.low h.high a b ix
    { h with low := hbounds.1, high := hbounds.2 }

/-! The camera -/

theorem State.swapCameraBank_restKept (s : State) : RestKept s s.swapCameraBank := by
  have exchanged : RestKept s (s.setGroup .camera s.tables.camera.frameStart) :=
    ⟨⟨fun h => h.setGroup (g := .camera) (Group.frameStart_fits h.camera), rfl⟩, id⟩
  simp only [State.swapCameraBank]
  split
  · exact exchanged.trans ((State.refreshView_restKept _).behind ⟨⟨id, rfl⟩, id⟩)
  · exact exchanged

theorem State.cameraMark_restKept (s : State) : RestKept s s.cameraMark := by
  unfold State.cameraMark
  split
  · exact (State.offerPicture_restKept _ _).behind ⟨⟨id, rfl⟩, id⟩
  · exact ⟨⟨id, rfl⟩, id⟩

theorem State.cameraFrameStart_restKept (s : State) : RestKept s s.cameraFrameStart :=
  s.swapCameraBank_restKept.trans ((State.cameraMark_restKept _).behind ⟨⟨id, rfl⟩, id⟩)

theorem State.frameSync_restKept (s : State) (lineToo : Bool) : RestKept s (s.frameSync lineToo) := by
  have started : ∀ u : State, RestKept s u → RestKept s u.cameraFrameStart.startWatch :=
    fun u h => (h.trans u.cameraFrameStart_restKept).trans ⟨⟨id, rfl⟩, id⟩
  simp only [State.frameSync]
  split
  · exact ⟨⟨id, rfl⟩, id⟩
  · simp only [State.syncAcquiring]
    split
    · exact ⟨⟨id, rfl⟩, id⟩
    · exact ⟨⟨id, rfl⟩, id⟩
    · split
      · exact started _ ⟨⟨id, rfl⟩, id⟩
      · exact ⟨⟨id, rfl⟩, id⟩
  · simp only [State.syncLocked]
    split
    · split
      · exact ⟨⟨id, rfl⟩, id⟩
      · exact started _ ⟨⟨id, rfl⟩, id⟩
    · exact started _ ⟨⟨id, rfl⟩, id⟩
    · exact started _ ⟨⟨id, rfl⟩, id⟩

theorem State.watchLocked_restKept (s : State) : RestKept s s.watchLocked := by
  simp only [State.watchLocked]
  split <;> exact ⟨⟨id, rfl⟩, id⟩

theorem State.completeRow_restKept (s : State) (kind : RowKind) (y : Nat) (pixels : List Rgb) :
    RestKept s (s.completeRow kind y pixels) := by
  unfold State.completeRow State.bufferRow
  split
  · exact ⟨⟨id, rfl⟩, id⟩
  · exact (State.bump_restKept _ (i := cntRowDrops) (by decide) 1).behind ⟨⟨id, rfl⟩, id⟩

theorem State.sendRow_restKept (s : State) (row : CameraRow) : RestKept s (s.sendRow row) := by
  unfold State.sendRow
  split
  · split
    · exact s.offerPicture_restKept _
    · exact ⟨⟨id, rfl⟩, id⟩
  · exact ⟨⟨id, rfl⟩, id⟩

/-! Menus and key pins -/

theorem State.setMenu_storeKept (s : State) (seat : Side) (m : Menu) : StoreKept s (s.setMenu seat m) := ⟨id, rfl⟩

theorem State.popPage_storeKept (s : State) (seat : Side) : StoreKept s (s.popPage seat) := ⟨id, rfl⟩

theorem State.menuKey_storeKept (s : State) (seat : Side) : StoreKept s (s.menuKey seat) := by
  unfold State.menuKey
  split
  · split <;> exact ⟨id, rfl⟩
  · exact ⟨id, rfl⟩

theorem State.moveKey_storeKept (s : State) (seat : Side) (find : PageRecord → Table → Option Nat → Option Nat) :
    StoreKept s (s.moveKey seat find) := by
  unfold State.moveKey
  split
  · exact ⟨id, rfl⟩
  · simp only
    split <;> exact ⟨id, rfl⟩

theorem State.itemAction_storeKept (s : State) (seat : Side) (e : PageEntry) (item : Nat) :
    StoreKept s (s.itemAction seat e item) := by
  simp only [State.itemAction]
  split
  case h_1 => split <;> exact ⟨id, rfl⟩
  case h_2 => exact ⟨id, rfl⟩
  case h_3 => exact ⟨id, rfl⟩
  case h_4 =>
    unfold State.routeAction
    split
    next harg =>
      have hlegal : ∀ i, wordLegal .route i (actionArg s.tables.items item) = true := fun _ => decide_eq_true harg
      exact ⟨fun h => (h.writeRoute (by cases seat <;> decide) (hlegal _)).writeRoute (by cases seat <;> decide)
        (hlegal _), rfl⟩
    next => exact ⟨id, rfl⟩
  case h_5 => exact ⟨fun h => h.swapRoutes, rfl⟩
  case h_6 =>
    simp only [State.notifyAction]
    split
    · exact ⟨id, rfl⟩
    · split <;> exact ⟨id, rfl⟩
  case h_7 => exact ⟨id, rfl⟩
  case h_8 => exact ⟨id, rfl⟩

theorem State.selectKey_storeKept (s : State) (seat : Side) : StoreKept s (s.selectKey seat) := by
  unfold State.selectKey
  split
  · exact ⟨id, rfl⟩
  · simp only
    split
    · exact ⟨id, rfl⟩
    · split
      · exact s.itemAction_storeKept _ _ _
      · exact ⟨id, rfl⟩

/-- The volume keys keep a zone's step between 0 and 20 (R136). -/
theorem State.volumeKey_storeKept (s : State) (seat : Side) (up : Bool) : StoreKept s (s.volumeKey seat up) := by
  have stepped : ∀ n, (s.tables.mixer.nat (stepWord seat) ≤ 20 → n ≤ 20) → StoreKept s (s.stepTo seat n) :=
    fun n hn => ⟨fun h => h.writeStep seat (hn (h.step_le seat)), rfl⟩
  simp only [State.volumeKey]
  refine StoreKept.trans ?_ (State.setMenu_storeKept _ seat _)
  split
  · split
    next hn => exact stepped _ fun _ => hn
    next => exact ⟨id, rfl⟩
  · split
    · exact stepped _ fun hn => (Nat.sub_le _ 1).trans hn
    · exact ⟨id, rfl⟩

theorem State.pressKey_storeKept (s : State) (seat : Side) (key : Key) : StoreKept s (s.pressKey seat key) := by
  refine StoreKept.trans ?_ (State.setMenu_storeKept _ seat _)
  cases key with
  | menu => exact s.menuKey_storeKept seat
  | up => exact s.moveKey_storeKept seat upFrom
  | down => exact s.moveKey_storeKept seat downFrom
  | select => exact s.selectKey_storeKept seat
  | back => exact s.popPage_storeKept seat
  | volUp => exact s.volumeKey_storeKept seat true
  | volDown => exact s.volumeKey_storeKept seat false

/-- A menu that keeps an empty stack empty. -/
theorem State.setMenu_restKept (s : State) (seat : Side) {m : Menu}
    (hm : (s.menus.get seat).stack = [] → m.stack = []) : RestKept s (s.setMenu seat m) :=
  (s.setMenu_storeKept seat m).restKept fun _ h => by
    cases seat with
    | a => exact ⟨h.composeA, h.composeB, h.disp, hm h.menuA, h.menuB, h.rings, h.formats⟩
    | b => exact ⟨h.composeA, h.composeB, h.disp, h.menuA, hm h.menuB, h.rings, h.formats⟩

theorem State.setRepeat_restKept (s : State) (seat : Side) (key : Key) (n : Option Nat) :
    RestKept s (s.setRepeat seat key n) := s.setMenu_restKept seat id

theorem State.handPress_storeKept (s : State) (seat : Side) (key : Key) : StoreKept s (s.handPress seat key) := by
  unfold State.handPress
  split
  · exact (s.setRepeat_restKept seat key _).toStoreKept.trans (State.pressKey_storeKept _ seat key)
  · exact s.pressKey_storeKept seat key

/-- A debouncer hands its presses in MEDIA only (R122). -/
theorem State.keySample_restKept (s : State) (seat : Side) (key : Key) (high : Bool) :
    RestKept s (s.keySample seat key high) := by
  have sampled : ∀ d, RestKept s (s.setKey seat key d) := fun d => s.setMenu_restKept seat id
  simp only [State.keySample]
  split
  · exact sampled _
  · split
    · split
      next hm => exact (sampled _).trans ((State.handPress_storeKept _ seat key).inMedia hm)
      next => exact sampled _
    · exact (sampled _).trans (State.setRepeat_restKept _ seat key none)

theorem State.keySamples_restKept (s : State) (seat : Side) (key : Key) (samples : List Bool) :
    RestKept s (samples.foldl (fun s x => s.keySample seat key x) s) := by
  induction samples generalizing s with
  | nil => exact ⟨⟨id, rfl⟩, id⟩
  | cons x rest ih => exact (s.keySample_restKept seat key x).trans (ih _)

/-! Displays -/

theorem State.setDisp_storeKept (s : State) (d : Side) (x : Display) : StoreKept s (s.setDisp d x) := ⟨id, rfl⟩

theorem State.latchComposition_storeKept (s : State) (d : Side) : StoreKept s (s.latchComposition d) := by
  have exchanged : StoreKept s (s.setGroup (composeOf d) (s.tables.group (composeOf d)).frameStart) :=
    ⟨fun h => h.setGroup (Group.frameStart_fits (h.group _)), rfl⟩
  simp only [State.latchComposition]
  split
  · exact (exchanged.trans (State.offerNotice_restKept _ _ _ _).toStoreKept).trans (State.setDisp_storeKept _ d _)
  · exact exchanged.trans (State.setDisp_storeKept _ d _)

theorem State.latchRoute_storeKept (s : State) (d : Side) : StoreKept s (s.latchRoute d) := by
  simp only [State.latchRoute]
  split <;> exact ⟨id, rfl⟩

theorem State.latchMirror_storeKept (s : State) (d : Side) : StoreKept s (s.latchMirror d) := by
  unfold State.latchMirror
  split
  · exact ⟨id, rfl⟩
  · split
    · exact (State.offerPicture_restKept _ _).toStoreKept.behind ⟨id, rfl⟩
    · exact ⟨id, rfl⟩

theorem State.displayFrameStart_storeKept (s : State) (d : Side) : StoreKept s (s.displayFrameStart d) :=
  (((s.latchComposition_storeKept d).trans (State.latchRoute_storeKept _ d)).trans
    (State.setDisp_storeKept _ d _)).trans (State.latchMirror_storeKept _ d)

theorem State.windowRow_storeKept (s : State) (d : Side) (scale r : Nat) : StoreKept s (s.windowRow d scale r).1 := by
  simp only [State.windowRow]
  split
  · exact ⟨id, rfl⟩
  · split
    · exact ⟨id, rfl⟩
    · split
      · exact (s.setDisp_storeKept d _).trans (State.countDisplay_storeKept _ d (k := 3) (by decide) _)
      · split <;> exact ⟨id, rfl⟩

theorem State.activeRow_storeKept (s : State) (d : Side) (comp : Table) (y : Nat) :
    StoreKept s (s.activeRow d comp y) := by
  have read : StoreKept s (s.readRow d comp y).1 := by
    unfold State.readRow
    split
    · exact ⟨id, rfl⟩
    · exact s.windowRow_storeKept _ _ _
  have mirrored : ∀ u : State, StoreKept u (u.mirrorRow d y) := fun u => by
    unfold State.mirrorRow
    split
    · exact (u.offerPicture_restKept _).toStoreKept
    · exact ⟨id, rfl⟩
  exact (read.trans (State.setDisp_storeKept _ d _)).trans (mirrored _)

theorem State.windowBottom_storeKept (s : State) (d : Side) (n : Nat) :
    StoreKept s ((s.setDisp d (s.disp.get d).windowBottom).bump (cntUnused d) n) :=
  (s.setDisp_storeKept d _).trans (State.countDisplay_storeKept _ d (k := 4) (by decide) n)

/-! The sample tick (R150) -/

theorem State.giveFrame_storeKept (s : State) (p : Prog) : StoreKept s (s.giveFrame p) := by
  cases h : (s.rings.get p).starved with
  | false => rw [State.giveFrame_fed h]; exact ⟨id, rfl⟩
  | true =>
    rw [State.giveFrame_starved h]
    have hword : cntUnderrun p < 64 := by have := p.isLt; simp only [cntUnderrun]; omega
    exact (s.bump_restKept hword 1).toStoreKept.trans ⟨id, rfl⟩

theorem State.mix_storeKept (s : State) (frames : Quad Stereo) : StoreKept s (s.mix frames) := by
  have put : ∀ outlets, StoreKept s { s with outlets := outlets } := fun _ => ⟨id, rfl⟩
  have clipped : ∀ (u : State) (o : Outlet) (n : Nat), StoreKept u (u.bump (cntClip o) n) :=
    fun u o n => (u.bump_restKept (by cases o <;> decide) n).toStoreKept
  exact (((put _).trans (clipped _ .zoneA _)).trans (clipped _ .zoneB _)).trans (clipped _ .cabin _)

theorem State.sampleTick_storeKept (s : State) : StoreKept s s.sampleTick := by
  have sourced : StoreKept s s.sourced := ⟨id, rfl⟩
  have advanced : ∀ u : State, StoreKept u u.advanceVoices := fun _ => ⟨id, rfl⟩
  have given : StoreKept s s.sourced.giveFrames :=
    sourced.trans ((((State.giveFrame_storeKept _ 0).trans (State.giveFrame_storeKept _ 1)).trans
      (State.giveFrame_storeKept _ 2)).trans (State.giveFrame_storeKept _ 3))
  rw [State.sampleTick_eq]
  exact (given.trans (State.mix_storeKept _ _)).trans (advanced _)

/-- Out of MEDIA no programme is claimed (R141), so every ring is empty after a tick. -/
theorem State.sampleTick_rings_of_not_media {s : State} (hm : s.media = false) : s.sampleTick.rings = emptyRings := by
  have hring : ∀ p, s.sampleTick.rings.get p = emptyRing := by
    intro p
    have hclaimed : s.sampleTick.claimed p = false := by
      simp only [State.claimed, s.sampleTick_storeKept.media, hm, Bool.false_and]
    rw [State.sampleTick_ring, hclaimed]
    rfl
  have h0 := hring 0
  have h1 := hring 1
  have h2 := hring 2
  have h3 := hring 3
  cases hr : s.sampleTick.rings with
  | mk p0 p1 p2 p3 =>
    rw [hr] at h0 h1 h2 h3
    exact congr (congr (congr (congrArg Quad.mk h0) h1) h2) h3

theorem State.sampleTick_restKept (s : State) : RestKept s s.sampleTick := by
  refine s.sampleTick_storeKept.restKept fun hm h => ?_
  have frame : s.sampleTick = _ := s.sampleTick_ticked
  have htables := s.sampleTick_ticked.tables
  have hdisp : s.sampleTick.disp = s.disp := (congrArg State.disp frame).trans rfl
  have hmenus : s.sampleTick.menus = s.menus := (congrArg State.menus frame).trans rfl
  have hformats : s.sampleTick.formats = s.formats := (congrArg State.formats frame).trans rfl
  exact
    { composeA := (congrArg (fun t => t.composeA.state) htables).trans h.composeA
      composeB := (congrArg (fun t => t.composeB.state) htables).trans h.composeB
      disp := hdisp.trans h.disp
      menuA := (congrArg (fun m => m.a.stack) hmenus).trans h.menuA
      menuB := (congrArg (fun m => m.b.stack) hmenus).trans h.menuB
      rings := State.sampleTick_rings_of_not_media hm
      formats := hformats.trans h.formats }

end Steps
end Sys2Proof.Machine
end

section
/-! Every command keeps the tables sound and the media side at rest: requests, restarts and the dispatch (O56, O58). -/

namespace Sys2Proof.Machine

open Sys2Proof

section Steps

variable {s t u : State}

/-! A PUT (R20, R86) -/

/-- The limit of a setup write clamps the count (R82). -/
theorem State.putSteering_restKept {i : Nat} {ws : List Word} (hfit : i + ws.length ≤ 16)
    (hlegal : firstIllegal .steering i ws = none) : RestKept s (s.putSteering i ws) := by
  rcases le_or_gt i 5 with hi | hi
  · have clamped : s.tables.Sound s.steer.count → TableStore.Sound
        { s.tables with steering := s.tables.steering.writeFrom i ws } (s.putSteering i ws).steer.count := fun h => by
      rw [State.putSteering_steer hi]
      have hbounds := clampCount_bounds (Int.natCast_nonneg ((s.tables.steering.writeFrom i ws).nat 3))
      exact
        { h with
          steering := Table.fits_writeFrom h.steering i ws fun _ => hfit
          steeringLegal := h.steeringLegal.writeFrom (Table.wf_of_fits h.steering) hlegal
          low := (hbounds _).1
          high := (hbounds _).2 }
    rw [State.putSteering_steer hi] at clamped
    rw [State.putSteering_setup hi, State.setSteer_eq]
    exact ⟨⟨clamped, rfl⟩, id⟩
  · rw [State.putSteering_flag hi]
    exact ⟨⟨id, rfl⟩, id⟩

/-- A run that passed its tests is legal and lies within its table. -/
theorem State.putWords_restKept {dest : TableId} {i : Nat} {ws : List Word} (hfit : i + ws.length ≤ tableSize dest)
    (hlegal : firstIllegal dest i ws = none) : RestKept s (s.putWords dest i ws) := by
  have fits : ∀ {t : Table} {n : Nat}, t.fits n = true → tableSize dest = n → (t.writeFrom i ws).fits n = true :=
    fun h hn => Table.fits_writeFrom h i ws fun _ => hn ▸ hfit
  have staged : ∀ {g : Group} {n : Nat}, g.fits n = true → tableSize dest = n → (g.putStaging i ws).fits n = true :=
    fun h hn => (Group.fits_iff _ _).mpr ⟨fits ((Group.fits_iff _ _).mp h).1 hn, ((Group.fits_iff _ _).mp h).2⟩
  cases dest
  case ident => exact ⟨⟨id, rfl⟩, id⟩
  case control =>
    have stored : RestKept s { s with tables := { s.tables with control := s.tables.control.writeFrom i ws } } :=
      ⟨⟨fun h => { h with
        control := fits h.control rfl
        controlLegal := h.controlLegal.writeFrom (Table.wf_of_fits h.control) hlegal }, rfl⟩, id⟩
    simp only [State.putWords, State.putControl]
    split
    · exact stored.trans (State.evalReverse_restKept _)
    · exact stored
  case raster => exact ⟨⟨fun h => { h with raster := fits h.raster rfl }, rfl⟩, id⟩
  case composeA => exact ⟨⟨fun h => { h with composeA := staged h.composeA rfl }, rfl⟩, id⟩
  case composeB => exact ⟨⟨fun h => { h with composeB := staged h.composeB rfl }, rfl⟩, id⟩
  case route =>
    exact
      ⟨⟨fun h => { h with
        route := fits h.route rfl
        routeLegal := h.routeLegal.writeFrom (Table.wf_of_fits h.route) hlegal }, rfl⟩, id⟩
  case steering => exact State.putSteering_restKept hfit hlegal
  case camera => exact ⟨⟨fun h => { h with camera := staged h.camera rfl }, rfl⟩, id⟩
  case pages => exact ⟨⟨fun h => { h with pages := fits h.pages rfl }, rfl⟩, id⟩
  case items => exact ⟨⟨fun h => { h with items := fits h.items rfl }, rfl⟩, id⟩
  case tiles => exact ⟨⟨fun h => { h with tiles := fits h.tiles rfl }, rfl⟩, id⟩
  case palettes => exact ⟨⟨fun h => { h with palettes := fits h.palettes rfl }, rfl⟩, id⟩
  case chimes => exact ⟨⟨fun h => { h with chimes := fits h.chimes rfl }, rfl⟩, id⟩
  case waves => exact ⟨⟨fun h => { h with waves := fits h.waves rfl }, rfl⟩, id⟩
  case mixer =>
    exact
      ⟨⟨fun h => { h with
        mixer := fits h.mixer rfl
        mixerLegal := h.mixerLegal.writeFrom (Table.wf_of_fits h.mixer) hlegal }, rfl⟩, id⟩
  case stats =>
    have hzeros : i + (List.replicate ws.length (0 : Word)).length ≤ 64 := by
      rw [List.length_replicate]; exact hfit
    exact ⟨⟨fun h => { h with stats := Table.fits_writeFrom h.stats i _ fun _ => hzeros }, rfl⟩, id⟩
  case composeAActive => exact ⟨⟨id, rfl⟩, id⟩
  case composeBActive => exact ⟨⟨id, rfl⟩, id⟩
  case cameraActive =>
    have banked : ∀ {g : Group}, g.fits 512 = true →
        Group.fits { g with active := g.active.writeFrom i ws } 512 = true := fun h =>
      (Group.fits_iff _ _).mpr ⟨((Group.fits_iff _ _).mp h).1, fits ((Group.fits_iff _ _).mp h).2 rfl⟩
    exact ⟨⟨fun h => { h with camera := banked h.camera }, rfl⟩, id⟩

theorem State.put_restKept (s : State) (ws : List Word) : RestKept s (s.put ws).state := by
  have ready : RestKept s (s.readyFor s.unit.pointer.table) := by
    unfold State.readyFor
    split <;> exact ⟨⟨id, rfl⟩, id⟩
  have written : ∀ (u : State) (dest : TableId) (i : Nat) (run : List Word), run = ws.take (tableSize dest - i) →
      u.putRefusal dest i run = none →
      RestKept u ((if run = [] then u else u.putWords dest i run).setPointer dest (i + run.length)) := by
    rintro u dest i _ rfl hpass
    split
    · exact ⟨⟨id, rfl⟩, id⟩
    next hne =>
      obtain ⟨-, -, -, -, hlegal⟩ := (State.putRefusal_none_iff hne).mp hpass
      have hlen : 0 < (ws.take (tableSize dest - i)).length := List.length_pos_iff.mpr hne
      have hfit : i + (ws.take (tableSize dest - i)).length ≤ tableSize dest := by
        rw [List.length_take] at hlen ⊢
        omega
      exact (State.putWords_restKept hfit hlegal).trans ⟨⟨id, rfl⟩, id⟩
  simp only [State.put]
  split
  · exact ready
  next hpass => split <;> exact ready.trans (written _ _ _ _ rfl hpass)

/-! The other requests -/

/-- With a stopped consumer the exchange is complete at once, so that the group stays IDLE (R37). -/
theorem State.commit_restKept (s : State) (g : GroupId) : RestKept s (s.commit g).state := by
  have pends : RestKept s (s.setGroup .camera { s.tables.camera with state := .swapPending }) :=
    ⟨⟨fun h => h.setGroup (g := .camera) h.camera, rfl⟩, id⟩
  have waits : StoreKept s (s.setGroup g { s.tables.group g with state := .swapPending }) :=
    ⟨fun h => h.setGroup (h.group g), rfl⟩
  have exchanged : RestKept s (s.setGroup g (s.tables.group g).commitNow) := by
    refine StoreKept.restKept ⟨fun h => h.setGroup (Group.commitNow_fits (h.group g)), rfl⟩ fun _ h => ?_
    cases g with
    | camera => exact ⟨h.composeA, h.composeB, h.disp, h.menuA, h.menuB, h.rings, h.formats⟩
    | composeA => exact ⟨rfl, h.composeB, h.disp, h.menuA, h.menuB, h.rings, h.formats⟩
    | composeB => exact ⟨h.composeA, rfl, h.disp, h.menuA, h.menuB, h.rings, h.formats⟩
  simp only [State.commit]
  split
  · exact ⟨⟨id, rfl⟩, id⟩
  · split
    · exact ⟨⟨id, rfl⟩, id⟩
    · split
      next hruns =>
        cases g with
        | camera => exact pends
        | composeA => exact waits.inMedia hruns
        | composeB => exact waits.inMedia hruns
      next => exact exchanged.trans ⟨⟨id, rfl⟩, id⟩

/-- KEY, OPEN_PAGE and RESUME are refused in CAMERA_ONLY (R24). -/
theorem State.media_of_serviceAllows {n : RequestName} (hn : n = .key ∨ n = .openPage ∨ n = .resume)
    (h : serviceAllows n s.unit.service = true) : s.media = true := by
  cases hv : s.unit.service with
  | media => exact decide_eq_true hv
  | cameraOnly =>
    rw [hv] at h
    rcases hn with rfl | rfl | rfl <;> cases h

theorem RequestName.body_eventKept (n : RequestName) (r : QueuedRequest)
    (hpass : serviceAllows n s.unit.service = true) : EventKept s (n.body r s).state := by
  cases n
  case start =>
    simp only [RequestName.body, startBody]
    split
    · exact ⟨id, id⟩
    · exact ⟨id, fun _ => rfl⟩
  all_goals refine RestKept.event ?_
  case point =>
    simp only [RequestName.body, pointBody]
    split
    · exact ⟨⟨id, rfl⟩, id⟩
    · split <;> exact ⟨⟨id, rfl⟩, id⟩
  case put => exact s.put_restKept _
  case get =>
    simp only [RequestName.body, getBody, State.get]
    split <;> exact ⟨⟨id, rfl⟩, id⟩
  case commit => exact s.commit_restKept _
  case restart => exact ⟨⟨id, rfl⟩, id⟩
  case vehicle => exact (State.evalReverse_restKept _).behind ⟨⟨id, rfl⟩, id⟩
  case view => exact (State.refreshView_restKept _).behind ⟨⟨id, rfl⟩, id⟩
  case hold => exact ⟨⟨id, rfl⟩, id⟩
  case release =>
    simp only [RequestName.body, releaseBody]
    split <;> exact ⟨⟨id, rfl⟩, id⟩
  case key => exact (s.pressKey_storeKept _ _).inMedia (State.media_of_serviceAllows (.inl rfl) hpass)
  case openPage =>
    refine StoreKept.inMedia ?_ (State.media_of_serviceAllows (.inr (.inl rfl)) hpass)
    simp only [RequestName.body, openPageBody]
    split <;> exact ⟨id, rfl⟩
  case chime =>
    simp only [RequestName.body, chimeBody]
    split <;> exact ⟨⟨id, rfl⟩, id⟩
  case stopChime => exact ⟨⟨id, rfl⟩, id⟩
  case resume =>
    refine StoreKept.inMedia ?_ (State.media_of_serviceAllows (.inr (.inr rfl)) hpass)
    simp only [RequestName.body, resumeBody]
    split <;> exact ⟨id, rfl⟩

theorem State.serve_eventKept (s : State) (n : RequestName) : EventKept s (s.serve n n.body) := by
  have taken : EventKept s s.dequeue := ⟨id, id⟩
  unfold State.serve
  split
  · exact ⟨id, id⟩
  · split
    · refine taken.trans (EventKept.trans ?_ (State.finish_restKept _ _ _ _ _).event)
      unfold State.answer
      split
      · exact ⟨id, id⟩
      next hpass => exact RequestName.body_eventKept n _ ((requestRefusal_none_iff _ _ _).mp hpass).2.1
    · exact ⟨id, id⟩

/-! Resets and restarts -/

theorem resetTables_sound : resetTables.Sound 0 := by
  have h := State.reset.tablesSound_iff.mpr
    ⟨resetTables_fits, by decide +kernel, by decide +kernel⟩
  exact h

theorem State.blank_eventKept (s : State) (held : Option ResetKind) (strap : BitVec 4) (autocam : Bool)
    (cause : ResetCause) (sending : List Word) (freeRun : Option Nat) (outs : PerOutlet Stereo) (pending : List Instr) :
    EventKept s (State.blank held strap autocam cause sending freeRun outs pending) :=
  ⟨fun _ => resetTables_sound, fun _ => (State.restSound_iff _).mpr fun _ => ⟨rfl, rfl, rfl, rfl, rfl, rfl, rfl⟩⟩

theorem State.completeGroup_storeKept (s : State) (g : GroupId) : StoreKept s (s.completeGroup g) := by
  have exchanged : StoreKept s (s.setGroup g (s.tables.group g).complete) :=
    ⟨fun h => h.setGroup (Group.complete_fits (h.group g)), rfl⟩
  simp only [State.completeGroup]
  split
  · exact exchanged.trans ⟨id, rfl⟩
  · exact exchanged

theorem Group.complete_idle (g : Group) : g.complete.state = .idle := by
  unfold Group.complete
  split
  next h => exact h
  next => rfl
  next => rfl

theorem State.completeGroup_tables (s : State) (g : GroupId) :
    (s.completeGroup g).tables = s.tables.setGroup g (s.tables.group g).complete := by
  simp only [State.completeGroup]
  split <;> rfl

theorem State.stopDisplay_storeKept (s : State) (d : Side) : StoreKept s (s.stopDisplay d) := by
  simp only [State.stopDisplay]
  split <;> exact ⟨id, rfl⟩

theorem State.stopDisplay_disp (s : State) (d : Side) : (s.stopDisplay d).disp = s.disp.set d stoppedDisplay := by
  simp only [State.stopDisplay]
  split <;> rfl

/-- A media restart leaves the media side at rest whatever it was (R27). -/
theorem State.mediaRestart_atRest (s : State) : s.mediaRestart.AtRest where
  composeA := by
    simp only [State.mediaRestart, State.stopDisplay_tables, State.completeGroup_tables]
    exact Group.complete_idle _
  composeB := by
    simp only [State.mediaRestart, State.stopDisplay_tables, State.completeGroup_tables]
    exact Group.complete_idle _
  disp := by simp only [State.mediaRestart, State.stopDisplay_disp]; rfl
  menuA := by simp only [State.mediaRestart, State.stopDisplay_menus, State.completeGroup_menus]; rfl
  menuB := by simp only [State.mediaRestart, State.stopDisplay_menus, State.completeGroup_menus]; rfl
  rings := by simp only [State.mediaRestart, State.stopDisplay_rings, State.completeGroup_rings]; rfl
  formats := by simp only [State.mediaRestart, State.stopDisplay_formats, State.completeGroup_formats]; rfl

theorem State.mediaRestart_eventKept (s : State) : EventKept s s.mediaRestart where
  stored h :=
    ((((State.completeGroup_storeKept _ .composeA).trans (State.completeGroup_storeKept _ .composeB)).trans
      (State.stopDisplay_storeKept _ .a)).trans (State.stopDisplay_storeKept _ .b)).stored (s := s.stopMediaSide) h
  rest _ := (State.restSound_iff _).mpr fun _ => s.mediaRestart_atRest

/-! Every command -/

theorem whenLive_eventKept {f : State → State} (ht : whenLive s f = .next t) (hf : EventKept s (f s)) :
    EventKept s t := by
  cases ht
  split
  · exact hf
  · exact ⟨id, id⟩

theorem State.media_of_rowDue {d : Side} {y : Nat} (h : s.rowDue d = some y) : s.media = true := by
  unfold State.rowDue at h
  split at h
  · cases h
  · split at h
    next hdue =>
      simp only [Bool.and_eq_true, and_assoc] at hdue
      exact hdue.1
    next => cases h

theorem exec_eventKept (c : Instr) (ht : exec c s = .next t) : EventKept s t := by
  have kept : ∀ f : State → State, whenLive s f = .next t → RestKept s (f s) → EventKept s t :=
    fun f h k => whenLive_eventKept h k.event
  have received : ∀ words, (whenLive s fun s => s.receive words) = .next t → EventKept s t :=
    fun words h => kept _ h (s.receive_restKept words)
  have served : ∀ n : RequestName, exec n.command s = .next t → EventKept s t :=
    fun n h => whenLive_eventKept (exec_command n s ▸ h) (s.serve_eventKept n)
  cases c
  all_goals simp only [exec] at ht
  case powerOnReset => cases ht; exact s.blank_eventKept ..
  case pinReset => cases ht; exact s.blank_eventKept ..
  case resetRelease stn autocam =>
    cases ht
    split
    · exact s.blank_eventKept ..
    · exact ⟨id, id⟩
  case fullRestart =>
    refine whenLive_eventKept ht ?_
    split
    · exact s.blank_eventKept ..
    · exact ⟨id, id⟩
  case mediaRestart =>
    refine whenLive_eventKept ht ?_
    split
    · exact s.mediaRestart_eventKept
    · exact ⟨id, id⟩
  case discardedParcel words => exact received words ht
  case fill words => exact received words ht
  case pictureLine words => exact received words ht
  case pictureMark words => exact received words ht
  case sound words => exact received words ht
  case request words => exact received words ht
  case silenceTimerExpiry =>
    refine kept _ ht ?_
    split
    · exact s.linkDown_restKept
    · exact ⟨⟨id, rfl⟩, id⟩
  case parcelEnd => exact kept _ ht s.beginParcel_restKept
  case replyHandoff =>
    refine kept _ ht ?_
    split
    · exact s.handOff_restKept _
    · exact ⟨⟨id, rfl⟩, id⟩
  case point => exact served .point ht
  case put => exact served .put ht
  case get => exact served .get ht
  case commit => exact served .commit ht
  case start => exact served .start ht
  case restart => exact served .restart ht
  case vehicle => exact served .vehicle ht
  case view => exact served .view ht
  case hold => exact served .hold ht
  case release => exact served .release ht
  case key => exact served .key ht
  case openPage => exact served .openPage ht
  case chime => exact served .chime ht
  case stopChime => exact served .stopChime ht
  case resume => exact served .resume ht
  case displayFrameStart d =>
    refine kept _ ht ?_
    split
    next hdue => exact (s.displayFrameStart_storeKept d).inMedia (Bool.and_eq_true_iff.mp hdue).1
    next => exact ⟨⟨id, rfl⟩, id⟩
  case windowTop d =>
    refine kept _ ht ?_
    split
    next hdue => exact (s.setDisp_storeKept d _).inMedia (Bool.and_eq_true_iff.mp hdue).1
    next => exact ⟨⟨id, rfl⟩, id⟩
  case activeRow d =>
    refine kept _ ht ?_
    split
    next hdue _ => exact (s.activeRow_storeKept d _ _).inMedia (State.media_of_rowDue hdue)
    next => exact ⟨⟨id, rfl⟩, id⟩
  case windowBottom d =>
    refine kept _ ht ?_
    split
    next hdue => exact (s.windowBottom_storeKept d _).inMedia (Bool.and_eq_true_iff.mp hdue).1
    next => exact ⟨⟨id, rfl⟩, id⟩
  case filterSample a b ix => exact kept _ ht (s.filterSample_restKept a b ix)
  case frameSync hs => exact kept _ ht (s.frameSync_restKept _)
  case lineSync clocks =>
    refine kept _ ht ?_
    split <;> exact ⟨⟨id, rfl⟩, id⟩
  case syncWatchExpiry =>
    refine kept _ ht ?_
    split
    · exact ⟨⟨id, rfl⟩, id⟩
    · split
      · exact s.watchLocked_restKept
      · exact ⟨⟨id, rfl⟩, id⟩
      · exact ⟨⟨id, rfl⟩, id⟩
  case freeRunExpiry =>
    refine kept _ ht ?_
    split
    · exact ⟨⟨id, rfl⟩, id⟩
    · exact s.cameraFrameStart_restKept.trans ⟨⟨id, rfl⟩, id⟩
  case cameraRow pixels =>
    refine kept _ ht ?_
    split
    · exact s.completeRow_restKept ..
    · exact ⟨⟨id, rfl⟩, id⟩
  case fillRow =>
    refine kept _ ht ?_
    split
    · exact s.completeRow_restKept ..
    · exact ⟨⟨id, rfl⟩, id⟩
  case generatedRow =>
    refine kept _ ht ?_
    split
    · exact s.completeRow_restKept ..
    · exact ⟨⟨id, rfl⟩, id⟩
  case rowDrawn =>
    refine kept _ ht ?_
    split
    · exact ⟨⟨id, rfl⟩, id⟩
    · exact (State.sendRow_restKept _ _).behind ⟨⟨id, rfl⟩, id⟩
  case reverseLevelChange samples => exact kept _ ht (s.reverseSamples_restKept samples)
  case calLevelChange samples => exact kept _ ht (s.calSamples_restKept samples)
  case lingerExpiry =>
    refine kept _ ht ?_
    split
    · exact s.changeReverse_restKept .off none
    · exact ⟨⟨id, rfl⟩, id⟩
  case press seat key samples => exact kept _ ht (s.keySamples_restKept seat key samples)
  case keyRelease seat key samples => exact kept _ ht (s.keySamples_restKept seat key samples)
  case repeatTimerExpiry seat key =>
    refine kept _ ht ?_
    split
    · exact ⟨⟨id, rfl⟩, id⟩
    · split
      next hdue =>
        obtain ⟨hdown, -⟩ := Bool.and_eq_true_iff.mp hdue
        exact (s.setRepeat_restKept seat key _).trans
          ((State.pressKey_storeKept _ seat key).inMedia (Bool.and_eq_true_iff.mp hdown).2)
      next => exact s.setRepeat_restKept seat key none
  case timeoutExpiry seat =>
    refine kept _ ht ?_
    split
    · exact ⟨⟨id, rfl⟩, id⟩
    · exact s.setMenu_restKept seat fun _ => rfl
  case bannerExpiry seat => exact kept _ ht (s.setMenu_restKept seat id)
  case sampleTick => exact kept _ ht s.sampleTick_restKept
  case voiceNaturalEnd =>
    refine kept _ ht ?_
    split <;> exact ⟨⟨id, rfl⟩, id⟩
  case releaseEnd =>
    refine kept _ ht ?_
    split <;> exact ⟨⟨id, rfl⟩, id⟩
  case cabinTimeTick => exact kept _ ht ⟨⟨id, rfl⟩, id⟩
  case unknownRequestName =>
    refine kept _ ht ?_
    split
    · exact ⟨⟨id, rfl⟩, id⟩
    · split
      · exact (State.finish_restKept _ _ _ _ _).behind ⟨⟨id, rfl⟩, id⟩
      · exact ⟨⟨id, rfl⟩, id⟩

theorem step_eventKept (ht : step s = .next t) : EventKept s t := by
  unfold step at ht
  split at ht
  · cases ht; exact ⟨id, id⟩
  next c rest _ =>
    have taken : EventKept s { s with pending := rest } := ⟨id, id⟩
    exact taken.trans (exec_eventKept c ht)

end Steps

/-- Settles O56: only a PUT, a key, a group exchange, a counter and the Steering Counter reach what it speaks of, and
each writes legal words inside its table, or clamps the count it leaves. -/
theorem stepKeepsTables : Obligations.StepKeepsTables := by
  intro s t hfits hlegal hcount ht
  exact t.tablesSound_iff.mp ((step_eventKept ht).stored (s.tablesSound_iff.mpr ⟨hfits, hlegal, hcount⟩))

/-- Settles O58: what could wake the media side is taken in MEDIA only, and START, which enters MEDIA, leaves nothing to
promise. -/
theorem stepKeepsMediaAtRest : Obligations.StepKeepsMediaAtRest := by
  intro s t hrest ht
  exact (step_eventKept ht).rest hrest

end Sys2Proof.Machine
end

section
/-! The resets and the restarts: the values they leave, and what a reset in force lets through (O2 to O4,
O55). -/

namespace Sys2Proof.Machine

open Sys2Proof

section Resets

variable {s t u : State}

/-! The resets (R28) -/

theorem exec_resetRelease {k : ResetKind} (h : s.held = some k) (stn : BitVec 4) (autocam : Bool) :
    exec (.resetRelease stn autocam) s = .next (s.released k stn autocam) := by
  simp only [exec, execResetRelease, h]

theorem exec_fullRestart_due (h : s.held = none) (hdue : s.unit.status = .restarting .full true) :
    exec .fullRestart s = .next s.fullRestart :=
  (whenLive_live h _).trans (congrArg _ (if_pos hdue))

theorem exec_fullRestart_notDue (h : s.held = none) (hdue : s.unit.status ≠ .restarting .full true) :
    exec .fullRestart s = .next s :=
  (whenLive_live h _).trans (congrArg _ (if_neg hdue))

/-- While a reset holds the part every command but those of the resets finds it in its reset state (log 10). -/
theorem exec_held (h : s.held ≠ none) {c : Instr} (hpower : c ≠ .powerOnReset) (hpin : c ≠ .pinReset)
    (hrelease : ∀ stn autocam, c ≠ .resetRelease stn autocam) : exec c s = .next s := by
  cases c
  case powerOnReset => exact absurd rfl hpower
  case pinReset => exact absurd rfl hpin
  case resetRelease stn autocam => exact absurd rfl (hrelease stn autocam)
  all_goals exact congrArg Host.Outcome.next (if_neg h)

/-! The default contents (R34) -/

/-- Past its listed words a table reads 0. -/
theorem Table.read_of_below {t : Table} {n i : Nat} (h : t.below n = true) (hi : n ≤ i) : t.read i = 0 := by
  induction t with
  | nil => rfl
  | cons c t ih =>
    simp only [Table.below, List.all_cons, Bool.and_eq_true, decide_eq_true_eq] at h
    rw [Table.read_cons, if_neg (by omega)]
    exact ih h.2

theorem defaultControl_above {i : Nat} (hi : 20 < i) : defaultControl.read i = 0 :=
  Table.read_of_below (n := 21) (by decide) hi

theorem defaultRoute_above {i : Nat} (hi : 4 < i) : defaultRoute.read i = 0 :=
  Table.read_of_below (n := 5) (by decide) hi

theorem defaultMixer_above {i : Nat} (hi : 34 < i) : defaultMixer.read i = 0 :=
  Table.read_of_below (n := 35) (by decide) hi

theorem defaultMixer_volume : ∀ i, i ≤ 20 → defaultMixer.nat i = 1638 * i := by decide

/-- Between and past the words of Tables 6-1 and 7-1 the default bank reads 0. -/
theorem defaultCamera_rest {i : Nat} (hlow : 8 ≤ i) (hfields : i < 35 ∨ 43 < i) (hfirst : i ≠ 54) (hlast : i ≠ 55) :
    defaultCamera.read i = 0 := by
  have hlisted : ∀ j < 56, 8 ≤ j → (j < 35 ∨ 43 < j) → j ≠ 54 → j ≠ 55 → defaultCamera.read j = 0 := by decide
  rcases Nat.lt_or_ge i 56 with hi | hi
  · exact hlisted i hi hlow hfields hfirst hlast
  · exact Table.read_of_below (n := 56) (by decide) hi

/-! The media restart (R27) -/

theorem exec_mediaRestart_due (h : s.held = none) (hdue : s.unit.status = .restarting .media true) :
    exec .mediaRestart s = .next s.mediaRestart :=
  (whenLive_live h _).trans (congrArg _ (if_pos hdue))

theorem exec_mediaRestart_notDue (h : s.held = none) (hdue : s.unit.status ≠ .restarting .media true) :
    exec .mediaRestart s = .next s :=
  (whenLive_live h _).trans (congrArg _ (if_neg hdue))

theorem Group.complete_eq (g : Group) : g.complete =
    if g.state = .swapPending then ⟨g.staging, g.staging, .idle⟩
    else if g.state = .copying then ⟨g.active, g.active, .idle⟩ else g := by
  obtain ⟨staging, active, state⟩ := g
  cases state <;> rfl

/-- Two states from which the same notices come: the same queue and the same enables. -/
def SameOffers (s t : State) : Prop := s.notices = t.notices ∧ s.tables.control = t.tables.control

theorem SameOffers.offer (h : SameOffers s t) (k : NoticeKind) (d v : Word) :
    SameOffers (s.offerNotice k d v) (t.offerNotice k d v) := by
  refine ⟨?_, h.2⟩
  rw [State.offerNotice_notices, State.offerNotice_notices, h.1, h.2]

theorem SameOffers.completeGroup (h : SameOffers s t) (g : GroupId) : SameOffers (s.completeGroup g)
    (if (s.tables.group g).state = .swapPending then t.offerNotice .group g.code 0 else t) := by
  have hset : SameOffers (s.setGroup g (s.tables.group g).complete) t := by cases g <;> exact h
  by_cases hswaps : (s.tables.group g).state = .swapPending
  · simp only [State.completeGroup, Group.swaps, hswaps, decide_true, if_true]
    exact hset.offer .group g.code 0
  · simp only [State.completeGroup, Group.swaps, hswaps, decide_false, if_false]
    exact hset

theorem SameOffers.stopDisplay (h : SameOffers s t) (d : Side) : SameOffers (s.stopDisplay d)
    (if (s.disp.get d).reader.picture = .noSource then t else t.offerNotice .picture (sideCode d) 0) := by
  have hset : SameOffers (s.setDisp d stoppedDisplay) t := h
  simp only [State.stopDisplay]
  split
  · exact hset
  · exact hset.offer .picture (sideCode d) 0

@[simp] theorem State.completeGroup_time (s : State) (g : GroupId) :
    (s.completeGroup g).notices.time = s.notices.time := by
  cases g <;> simp only [State.completeGroup] <;> split <;> simp [State.offerNotice_notices]

@[simp] theorem State.stopDisplay_time (s : State) (d : Side) : (s.stopDisplay d).notices.time = s.notices.time := by
  cases d <;> simp only [State.stopDisplay] <;> split <;> simp [State.offerPictureNotice, State.offerNotice_notices]

theorem State.mediaRestart_unit (s : State) :
    s.mediaRestart.unit = { s.unit with service := .cameraOnly, cause := .media, status := .ready } := by
  simp only [State.mediaRestart, State.stopDisplay_unit, State.completeGroup_unit]
  rfl

theorem State.mediaRestart_frame (s : State) (h : s.held = none) :
    s.mediaRestart.held = none ∧ s.mediaRestart.link = s.link ∧ s.mediaRestart.steer = s.steer ∧
    s.mediaRestart.camera = s.camera ∧ s.mediaRestart.guide = s.guide ∧ s.mediaRestart.rear = s.rear ∧
    s.mediaRestart.pending = s.pending ∧ s.mediaRestart.notices.time = s.notices.time := by
  simp [State.mediaRestart, h]

theorem State.mediaRestart_mirror (s : State) : s.mediaRestart.mirror = ⟨none, 0⟩ := by
  simp only [State.mediaRestart, State.stopDisplay_mirror, State.completeGroup_mirror]
  rfl

theorem State.mediaRestart_menus (s : State) : s.mediaRestart.menus = ⟨s.menus.a.closed, s.menus.b.closed⟩ := by
  simp only [State.mediaRestart, State.stopDisplay_menus, State.completeGroup_menus]
  rfl

theorem State.mediaRestart_outlets (s : State) : s.mediaRestart.outlets = s.outlets.map fun _ o => o.muted := by
  simp only [State.mediaRestart, State.stopDisplay_outlets, State.completeGroup_outlets]
  rfl

theorem State.mediaRestart_chimes (s : State) : s.mediaRestart.chimes = s.chimes.silenced := by
  simp only [State.mediaRestart, State.stopDisplay_chimes, State.completeGroup_chimes]
  rfl

theorem State.mediaRestart_tables (s : State) : s.mediaRestart.tables =
    { s.tables with composeA := s.tables.composeA.complete, composeB := s.tables.composeB.complete } := by
  simp only [State.mediaRestart, State.stopDisplay_tables, State.completeGroup_tables]
  rfl

/-- The notices of a media restart: a GROUP for each swap it completes, then a PICTURE for each display it stops. -/
theorem State.mediaRestart_notices (s : State) :
    let n1 := if s.tables.composeA.state = .swapPending then s.offerNotice .group 1 0 else s
    let n2 := if s.tables.composeB.state = .swapPending then n1.offerNotice .group 2 0 else n1
    let n3 := if s.disp.a.reader.picture = .noSource then n2 else n2.offerNotice .picture 0 0
    let n4 := if s.disp.b.reader.picture = .noSource then n3 else n3.offerNotice .picture 1 0
    s.mediaRestart.notices = n4.notices := by
  have hstart : SameOffers s.stopMediaSide s := ⟨rfl, rfl⟩
  have hstep := (((hstart.completeGroup .composeA).completeGroup .composeB).stopDisplay .a).stopDisplay .b
  have hgroupB : ((s.stopMediaSide.completeGroup .composeA).tables.group .composeB).state =
      s.tables.composeB.state := by
    rw [State.completeGroup_tables]
    rfl
  rw [hgroupB] at hstep
  simp only [State.completeGroup_disp, State.stopDisplay_disp] at hstep
  exact hstep.1

end Resets

/-- Settles O2: each reset gives every block its reset value, and no other command gets past a reset in force. -/
theorem resetsLoadResetValues : Obligations.ResetsLoadResetValues :=
  ⟨⟨fun _ => rfl, fun _ => rfl, fun _ stn autocam h => exec_resetRelease h stn autocam,
      fun _ stn autocam h => exec_resetRelease h stn autocam, fun _ => exec_fullRestart_due,
      fun _ => exec_fullRestart_notDue⟩,
    fun _ _ h hpower hpin hrelease => exec_held h hpower hpin hrelease⟩

/-- Settles O3: the blocks' reset values, read off one by one. -/
theorem resetValues : Obligations.ResetValues := by
  refine ⟨fun held strap autocam cause sending freeRun outs pending => ?_, rfl⟩
  intro t
  refine ⟨⟨rfl, rfl, rfl, rfl⟩, ⟨rfl, rfl, rfl, rfl⟩, ⟨rfl, rfl, rfl, rfl, rfl⟩, ⟨rfl, rfl⟩,
    fun i => ⟨rfl, rfl, rfl, rfl, rfl, rfl, rfl, rfl, rfl, rfl, rfl, rfl⟩, ⟨rfl, rfl, rfl⟩, ?control, ?bank,
    ⟨fun p => by fin_cases p <;> rfl, rfl⟩, fun d => by cases d <;> exact ⟨rfl, rfl, rfl, rfl, rfl⟩,
    fun d k => by cases d <;> cases k <;> exact ⟨rfl, rfl, rfl⟩, ⟨rfl, rfl, rfl, rfl, rfl, rfl, rfl⟩,
    ⟨rfl, rfl, rfl, rfl, rfl⟩, fun d => by cases d <;> exact ⟨rfl, rfl, rfl, rfl, rfl, rfl, rfl, rfl, rfl, rfl⟩,
    ⟨rfl, rfl, rfl, rfl, rfl, rfl, rfl⟩, ⟨rfl, rfl, rfl, rfl, rfl, rfl, rfl, rfl⟩,
    ⟨rfl, rfl, rfl, rfl, rfl, rfl, rfl, rfl⟩, fun p => by fin_cases p <;> exact ⟨rfl, rfl⟩,
    fun o => by cases o <;> exact ⟨rfl, rfl, rfl, rfl⟩, ⟨rfl, rfl⟩⟩
  case control =>
    have hroute : ∀ i, i < 5 → defaultRoute.nat i = 15 := by decide
    have henables : ∀ i, i < 9 → defaultControl.nat i = 1 := by decide
    exact ⟨hroute, henables, rfl, rfl, rfl, rfl, defaultMixer_volume, rfl, rfl, fun _ => defaultControl_above,
      fun _ => defaultRoute_above, fun _ => defaultMixer_above, rfl⟩
  case bank =>
    exact ⟨rfl, rfl, rfl, rfl, rfl, fun _ => defaultCamera_rest, fun i hi =>
      Table.read_slice defaultCamera (Nat.zero_le i) (Nat.lt_succ_of_le hi)⟩

/-- Settles O4: the media side stops, each COMPOSE group completes, and each of the four changes offers its notice. -/
theorem mediaRestartStopsMediaSide : Obligations.MediaRestartStopsMediaSide := by
  refine ⟨fun s hs hdue => ⟨s.mediaRestart, exec_mediaRestart_due hs hdue, ?_⟩, fun s => exec_mediaRestart_notDue⟩
  have hrest := s.mediaRestart_atRest
  refine ⟨s.mediaRestart_unit, s.mediaRestart_frame hs, ?tables, hrest.formats, hrest.disp,
    s.mediaRestart_mirror, ?menus, hrest.rings, ?outlets, s.mediaRestart_chimes, s.mediaRestart_notices⟩
  case tables => rw [s.mediaRestart_tables, Group.complete_eq, Group.complete_eq]
  case menus =>
    intro d
    rw [s.mediaRestart_menus]
    cases d <;> rfl
  case outlets =>
    intro o
    rw [s.mediaRestart_outlets]
    cases o <;> rfl

/-- Settles O55: each block's invariant is decided on the part right after reset. -/
theorem resetSatisfiesInvariants : Obligations.ResetSatisfiesInvariants :=
  have ⟨hfits, hlegal, hcount⟩ := (State.tablesSound_iff State.reset).mp resetTables_sound
  ⟨⟨hfits, hlegal, hcount, rfl⟩, ⟨rfl, rfl, rfl, rfl, rfl⟩,
    fun d => by cases d <;> exact ⟨rfl, rfl⟩, fun p => by fin_cases p <;> rfl, fun o => by cases o <;> rfl,
    ⟨rfl, rfl, rfl⟩, rfl⟩

end Sys2Proof.Machine
end

section
/-! The Request Unit: the tests of R18, POINT and GET, COMMIT, START, RESTART and RESUME (O15, O16, O21, O22). -/

namespace Sys2Proof.Machine

open Sys2Proof

section Requests

variable {s x : State} {r : QueuedRequest} {q : List QueuedRequest} {n : RequestName}

/-! The tests of R18 -/

theorem requestName_none_iff (k : Nat) : requestName k = none ↔ k = 0 ∨ 15 < k := by
  rcases Nat.lt_or_ge k 16 with hk | hk
  · have hlisted : ∀ k < 16, (requestName k = none ↔ k = 0) := by decide
    rw [hlisted k hk]
    omega
  · obtain ⟨m, rfl⟩ := Nat.exists_eq_add_of_le' hk
    exact iff_of_true rfl (.inr hk)

theorem requestRefusal_length (v : Service) (hlength : lengthRight n r ≠ true) :
    requestRefusal n v r = some .length := by
  simp [requestRefusal, hlength]

theorem requestRefusal_state {v : Service} (hlength : lengthRight n r = true) (hservice : serviceAllows n v ≠ true) :
    requestRefusal n v r = some .state := by
  simp [requestRefusal, hlength, hservice]

theorem requestRefusal_value {v : Service} (hlength : lengthRight n r = true) (hservice : serviceAllows n v = true)
    (hargs : argsRight n r ≠ true) : requestRefusal n v r = some .value := by
  simp [requestRefusal, hlength, hservice, hargs]

theorem serviceAllows_iff (n : RequestName) (v : Service) : serviceAllows n v = true ↔
    ¬ ((n = .key ∨ n = .openPage ∨ n = .resume) ∧ v = .cameraOnly) ∧ ¬ (n = .start ∧ v = .media) := by
  cases n <;> cases v <;> decide

theorem exec_unknownRequestName_unknown (ha : s.about r q) (hn : r.name = none) :
    exec .unknownRequestName s = .next ((s.withQueue q).finish r .unknown [] none) := by
  rw [exec, execUnknownRequestName, whenLive_live ha.1, State.about_nextRequest ha, ← State.about_dequeue ha]
  exact congrArg _ (if_pos hn)

theorem exec_unknownRequestName_named (h : ∀ r, s.nextRequest = some r → r.name ≠ none) :
    exec .unknownRequestName s = .next s := by
  rw [exec, execUnknownRequestName, whenLive]
  split
  · split
    · rfl
    · next r hr => rw [if_neg (h r hr)]
  · rfl

theorem State.nextRequest_none (h : s.unit.status ≠ .ready ∨ s.unit.queue = []) : s.nextRequest = none := by
  rw [State.nextRequest]
  split
  · next hready => rw [h.resolve_left (not_not_intro hready), List.head?_nil]
  · rfl

/-! POINT and GET -/

theorem tableOfId_none {k : Nat} (h : 18 < k) : tableOfId k = none := by
  obtain ⟨m, rfl⟩ := Nat.exists_eq_add_of_le' h
  rfl

theorem pointBody_table (h : tableOfId (r.arg 0) = none) : pointBody r x = .of x .table [] := by
  rw [pointBody, h]

theorem pointBody_index {t : TableId} (h : tableOfId (r.arg 0) = some t) (hi : tableSize t ≤ r.arg 1) :
    pointBody r x = .of x .index [] := by
  simp only [pointBody, h, if_neg (Nat.not_lt.mpr hi)]

theorem pointBody_done {t : TableId} (h : tableOfId (r.arg 0) = some t) (hi : r.arg 1 < tableSize t) :
    pointBody r x = .done (x.setPointer t (r.arg 1)) := by
  simp only [pointBody, h, if_pos hi]

theorem State.groupBusy_iff (s : State) (t : TableId) :
    s.groupBusy t = true ↔ ∃ g, stagingOf t = some g ∧ (s.tables.group g).state ≠ .idle := by
  rw [State.groupBusy]
  cases stagingOf t <;> simp

theorem State.identWord_above {i : Nat} (h : 9 ≤ i) (s : State) : s.identWord i = 0 := by
  obtain ⟨m, rfl⟩ := Nat.exists_eq_add_of_le' h
  rfl

theorem State.identWord_cause (s : State) : (s.identWord 4).toNat = match s.unit.cause with
    | .none => 0
    | .power => 1
    | .pin => 2
    | .full => 3
    | .media => 4 := by
  rw [State.identWord]
  cases s.unit.cause <;> rfl

theorem State.identWord_service_iff (s : State) : s.identWord 7 = 1 ↔ s.unit.service = .media := by
  rw [State.identWord]
  cases s.unit.service <;> decide

theorem State.steerWord_above {i : Nat} (h : 12 ≤ i) (s : State) : s.steerWord i = 0 := by
  obtain ⟨m, rfl⟩ := Nat.exists_eq_add_of_le' h
  show (if m + 12 < 6 then s.tables.steering.read (m + 12) else 0) = 0
  exact if_neg (by omega)

theorem State.steerWord_setup {i : Nat} (h : i < 6) (s : State) : s.steerWord i = s.tables.steering.read i := by
  interval_cases i <;> rfl

/-- A flag word reads 1 exactly where the flag is set. -/
theorem flagWord_eq_one_iff (b : Bool) : ((if b then 1 else 0 : Word) = 1) ↔ b = true := by
  cases b <;> decide

theorem Word.toInt_ofInt_of_bounds {c : Int} (hlow : -4095 ≤ c) (hhigh : c ≤ 4095) : (BitVec.ofInt 16 c).toInt = c := by
  rw [BitVec.toInt_ofInt]
  exact Int.bmod_eq_of_le (by omega) (by omega)

theorem upper_append_lower (t : BitVec 32) : (t.extractLsb' 16 16 ++ t.extractLsb' 0 16 : BitVec 32) = t := by
  rw [BitVec.extractLsb'_append_extractLsb'_eq_extractLsb' (by omega)]
  exact BitVec.extractLsb'_eq_self

/-! COMMIT -/

theorem cameraBankFailure_eq (bank : Table) :
    cameraBankFailure bank = (descriptorFailure bank).or (guideFailure bank (bank.nat 5)) := by
  rw [cameraBankFailure]
  cases descriptorFailure bank <;> rfl

theorem State.bankFailure_eq (x : State) (g : GroupId) : x.bankFailure g =
    let bank := (x.tables.group g).staging
    match g with
    | .camera => (descriptorFailure bank).or (guideFailure bank (bank.nat 5))
    | .composeA => composeFailure bank (displaySize x.tables.raster .a)
    | .composeB => composeFailure bank (displaySize x.tables.raster .b) := by
  cases g with
  | camera => exact cameraBankFailure_eq _
  | composeA => rfl
  | composeB => rfl

theorem State.commit_pending {g : GroupId} (h : (x.tables.group g).state ≠ .idle) : x.commit g = .of x .pending [] :=
  if_pos h

theorem State.commit_value {g : GroupId} {w : Nat} (hidle : (x.tables.group g).state = .idle)
    (hfails : x.bankFailure g = some w) : x.commit g = .of x .value [BitVec.ofNat 16 w] := by
  simp only [State.commit, hidle, hfails, ne_eq, not_true, if_false]

theorem State.commit_waits {g : GroupId} (hidle : (x.tables.group g).state = .idle) (hpasses : x.bankFailure g = none)
    (hruns : x.consumerRuns g = true) :
    x.commit g = .done (x.setGroup g { x.tables.group g with state := .swapPending }) := by
  simp only [State.commit, hidle, hpasses, hruns, ne_eq, not_true, if_false, if_true]

theorem State.commit_exchanges {g : GroupId} (hidle : (x.tables.group g).state = .idle)
    (hpasses : x.bankFailure g = none) (hstopped : x.consumerRuns g = false) : x.commit g =
      .done ((x.setGroup g (x.tables.group g).commitNow).offerNotice .group g.code GroupState.idle.code) := by
  simp only [State.commit, hidle, hpasses, hstopped, ne_eq, not_true, if_false, Bool.false_eq_true]

theorem State.consumerRuns_iff (g : GroupId) : x.consumerRuns g = true ↔ g = .camera ∨ x.unit.service = .media := by
  cases g <;> simp [State.consumerRuns, State.media]

/-! START -/

theorem startBody_failed {t w : Nat} (h : x.startFailure = some (t, w)) :
    startBody r x = .of x .value [BitVec.ofNat 16 t, BitVec.ofNat 16 w] := by
  rw [startBody, h]

theorem startBody_passed (h : x.startFailure = none) :
    startBody r x = .done { x with unit := { x.unit with service := .media } } := by
  rw [startBody, h]

end Requests

/-- Settles O22: each of the three answers with what its own rule gives in the case at hand. -/
theorem startRestartAndResume : Obligations.StartRestartAndResume := by
  refine ⟨fun s r q h => ?start, fun s r q h => State.exec_takes_body h rfl, fun s r q h => ?resume⟩
  case start =>
    intro x ra rb ca cb failed
    have hfailed : ∀ t w, x.startFailure = some (t, w) → exec .start s = failed (BitVec.ofNat 16 t) w :=
      fun t w hfails => State.exec_takes_body h (startBody_failed (r := r) hfails)
    have hfailure : x.startFailure = match ra, rb, ca, cb with
      | some w, _, _, _ => some (2, w)
      | none, some w, _, _ => some (2, w)
      | none, none, some w, _ => some (16, w)
      | none, none, none, some w => some (17, w)
      | none, none, none, none => none := rfl
    refine ⟨fun w ha => hfailed 2 w (hfailure.trans ?_), fun w ha hb => hfailed 2 w (hfailure.trans ?_),
      fun w ha hb hca => hfailed 16 w (hfailure.trans ?_), fun w ha hb hca hcb => hfailed 17 w (hfailure.trans ?_),
      fun ha hb hca hcb => State.exec_takes_body h (startBody_passed (r := r) (hfailure.trans ?_))⟩
    all_goals simp only [*]
  case resume =>
    exact ⟨fun hplays => State.exec_takes_body h (if_neg hplays),
      fun hhalted => State.exec_takes_body h (if_pos hhalted)⟩

/-- Settles O21: the group's state, its check and its consumer decide what a COMMIT does. -/
theorem commitChecksAndExchanges : Obligations.CommitChecksAndExchanges := by
  intro s r q h g b x failure
  have hgroup : groupOfArg (r.arg 0) = g := by
    rcases harg : r.arg 0 with _ | _ | k <;> simp [groupOfArg, g, harg]
  have hfailure : x.bankFailure g = failure := x.bankFailure_eq g
  have hanswer {a : Answer} (ha : x.commit g = a) : exec .commit s = .next (a.finish r) :=
    State.exec_takes_body h ((congrArg x.commit hgroup).trans ha)
  refine ⟨fun hbusy => hanswer (State.commit_pending hbusy), fun w hidle hfails =>
    hanswer (State.commit_value hidle (hfailure.trans hfails)), fun hidle hpasses hruns =>
    hanswer (State.commit_waits hidle (hfailure.trans hpasses) ((State.consumerRuns_iff g).mpr hruns)),
    fun hidle hpasses hcompose hstopped => hanswer (State.commit_exchanges hidle (hfailure.trans hpasses) ?_)⟩
  rw [Bool.eq_false_iff, ne_eq, State.consumerRuns_iff]
  rintro (hcamera | hmedia)
  · exact hcompose hcamera
  · exact absurd (hstopped.symm.trans hmedia) (by decide)

/-- Settles O15: the tests in their order, each with the spelled form of its condition. -/
theorem refusedRequestOnlyReplies : Obligations.RefusedRequestOnlyReplies := by
  refine ⟨fun r => requestName_none_iff _, fun s r q n ha => ?tests, fun s n _ hidle => ?idle⟩
  case tests =>
    intro refused words allowed inRange
    have hwords : lengthRight n r = true ↔ r.payload.length = words := by
      cases n
      case put => simp only [lengthRight, decide_eq_true_eq, words]; omega
      all_goals exact decide_eq_true_iff
    have hallowed : serviceAllows n s.unit.service = true ↔ allowed := serviceAllows_iff n _
    have hrange : argsRight n r = true ↔ inRange := by
      cases n
      case stopChime => exact decide_eq_true_iff.trans Nat.lt_succ_iff
      case point | start | hold | release | chime => exact iff_of_true rfl trivial
      all_goals exact decide_eq_true_iff
    have hnext {m : RequestName} (hname : r.name ≠ some m) : ∀ r', s.nextRequest = some r' → r'.name ≠ some m := by
      rw [State.about_nextRequest ha]
      rintro r' ⟨⟩
      exact hname
    refine ⟨exec_unknownRequestName_unknown ha, fun hn hlen => ?_, fun hn hlen hstate => ?_,
      fun hn hlen hstate hvalue => ?_, fun hn hlen hstate hvalue => ?_,
      fun hn => State.exec_unnamed (hnext hn), fun hn => ?_⟩
    · exact State.exec_refused ha hn (requestRefusal_length _ (hwords.not.mpr hlen))
    · exact State.exec_refused ha hn (requestRefusal_state (hwords.mpr hlen) (hallowed.not.mpr hstate))
    · exact State.exec_refused ha hn
        (requestRefusal_value (hwords.mpr hlen) (hallowed.mpr hstate) (hrange.not.mpr hvalue))
    · exact ⟨ha, hn, (requestRefusal_none_iff n _ r).mpr ⟨hwords.mpr hlen, hallowed.mpr hstate, hrange.mpr hvalue⟩⟩
    · refine exec_unknownRequestName_named ?_
      rw [State.about_nextRequest ha]
      rintro r' ⟨⟩
      exact hn
  case idle =>
    have hnone : s.nextRequest = none := State.nextRequest_none hidle
    exact ⟨State.exec_unnamed (by simp [hnone]), exec_unknownRequestName_named (by simp [hnone])⟩

/-- Settles O16: POINT and GET by their own rules, and each status word by the block that it reports. -/
theorem pointAndGet : Obligations.PointAndGet := by
  refine ⟨⟨fun s r q h => ?point, fun s r q h => ?get⟩, fun s => ⟨⟨rfl, rfl, ?strap,
    flagWord_eq_one_iff _, upper_append_lower _, ?service, flagWord_eq_one_iff _,
    fun i hi => State.identWord_above hi s⟩, s.identWord_cause, ⟨rfl, Word.toInt_ofInt_of_bounds,
    flagWord_eq_one_iff _, ?faults, Word.toInt_ofInt_of_bounds, rfl, fun i hi => State.steerWord_above hi s,
    fun i hi => State.steerWord_setup hi s⟩, fun i => ⟨rfl, rfl, rfl, rfl, rfl, rfl, rfl, rfl⟩⟩⟩
  case point =>
    intro reply
    exact ⟨fun hid => State.exec_takes_body h (pointBody_table (tableOfId_none hid)), fun t ht =>
      ⟨fun hi => State.exec_takes_body h (pointBody_index ht hi),
        fun hi => State.exec_takes_body h (pointBody_done ht hi)⟩⟩
  case get =>
    intro t i n
    have hanswer {a : Answer} (ha : (s.withQueue q).get (r.arg 0) = a) : exec .get s = .next (a.finish r) :=
      State.exec_takes_body h ha
    refine ⟨fun hbusy => hanswer (if_pos ((State.groupBusy_iff _ _).mpr hbusy)), fun hidle => hanswer (if_neg ?_)⟩
    rw [State.groupBusy_iff]
    rintro ⟨g, hg, hbusy⟩
    exact hbusy (hidle g hg)
  case strap => exact BitVec.toNat_setWidth_of_le (by decide)
  case service => exact s.identWord_service_iff
  case faults => exact fun hfaults => Nat.mod_eq_of_lt (Nat.lt_succ_of_le hfaults)

end Sys2Proof.Machine
end

section
/-! Cabin time and the notice queue, and what a display latches at its frame start (O37, O54). -/

namespace Sys2Proof.Machine

open Sys2Proof

section Notices

variable {s : State}

/-! The notice queue (R39, R40) -/

theorem exec_cabinTimeTick (h : s.held = none) :
    exec .cabinTimeTick s = .next { s with notices := { s.notices with time := s.notices.time + 1 } } := by
  rw [exec, execCabinTimeTick, whenLive_live h]

theorem cabinTime_succ (t : BitVec 32) : (t + 1).toNat = if t.toNat = 4294967295 then 0 else t.toNat + 1 := by
  rw [BitVec.toNat_add]
  have hlt := t.isLt
  split <;> simp <;> omega

theorem Notice.from_iff (n : Notice) (k : NoticeKind) (d : Word) : n.from k d = true ↔ n.kind = k ∧ n.detail = d :=
  decide_eq_true_iff

theorem State.offerNotice_frame (s : State) (k : NoticeKind) (d v : Word) : s.offerNotice k d v =
    { s with notices := { s.notices with records := (s.offerNotice k d v).notices.records } } := by
  have htime : (s.offerNotice k d v).notices.time = s.notices.time := by
    rw [State.offerNotice_notices, NoticeQueue.offer_time]
  dsimp only
  rw [← htime]
  rfl

theorem State.offerNotice_off {k : NoticeKind} (d v : Word) (h : noticeEnabled s.tables.control k = false) :
    s.offerNotice k d v = s := by
  rw [State.offerNotice, h, NoticeQueue.offer_disabled]

/-- Of the records only the one from the source changes, and it stays in its place. -/
theorem NoticeQueue.offer_replaces {q : NoticeQueue} {before after : List Notice} {n : Notice} {k : NoticeKind}
    {d : Word} (v : Word) (hq : q.records = before ++ n :: after) (hn : n.kind = k ∧ n.detail = d)
    (hothers : ∀ m ∈ before ++ after, ¬ (m.kind = k ∧ m.detail = d)) :
    (q.offer true k d v).records = before ++ ⟨k, d, v, q.time⟩ :: after := by
  have hfrom : n.from k d = true := (n.from_iff k d).mpr hn
  have hkept : ∀ l : List Notice, (∀ m ∈ l, m ∈ before ++ after) →
      (l.map fun m => if m.from k d = true then { m with value := v, time := q.time } else m) = l :=
    fun l hl => (List.map_congr_left fun m hm =>
      if_neg (mt (m.from_iff k d).mp (hothers m (hl m hm)))).trans (List.map_id l)
  rw [NoticeQueue.offer_merge v ⟨n, by simp [hq], hfrom⟩]
  obtain ⟨rfl, rfl⟩ := hn
  simp only [hq, List.map_append, List.map_cons, hfrom, if_true]
  rw [hkept before (fun m hm => List.mem_append_left _ hm), hkept after (fun m hm => List.mem_append_right _ hm)]

/-- The state sources of Table 2-8. -/
def stateSources : List (NoticeKind × Word) :=
  [(.route, 0), (.group, 0), (.group, 1), (.group, 2), (.camera, 0), (.steer, 0), (.reverse, 0), (.picture, 0),
    (.picture, 1), (.sound, 0), (.sound, 1), (.sound, 2), (.sound, 3), (.link, 0)]

theorem detailLegal_lt {k : NoticeKind} {d : Word} (hlegal : detailLegal k d = true) (hk : k ≠ .select) :
    d.toNat < 4 := by
  cases k
  case select => exact absurd rfl hk
  case group => exact Nat.lt_of_le_of_lt (of_decide_eq_true hlegal) (by decide)
  case picture => exact Nat.lt_of_le_of_lt (of_decide_eq_true hlegal) (by decide)
  case sound => exact Nat.lt_succ_of_le (of_decide_eq_true hlegal)
  all_goals
    obtain rfl : d = 0 := of_decide_eq_true hlegal
    decide

/-- A legal state source is listed in `stateSources`. -/
theorem mem_stateSources {k : NoticeKind} {d : Word} (hlegal : detailLegal k d = true) (hk : k ≠ .select) :
    (k, d) ∈ stateSources := by
  have hlisted : ∀ n < 4, detailLegal k (BitVec.ofNat 16 n) = true → (k, BitVec.ofNat 16 n) ∈ stateSources := by
    cases k
    case select => exact absurd rfl hk
    all_goals decide
  obtain ⟨n, hn, rfl⟩ : ∃ n < 4, d = BitVec.ofNat 16 n := ⟨d.toNat, detailLegal_lt hlegal hk, by simp⟩
  exact hlisted n hn hlegal

/-- At most one record for each of 14 state sources, and at most 2 SELECT records. -/
theorem SourcesSound.length_le {l : List (NoticeKind × Word)} (h : SourcesSound l) : l.length ≤ 16 := by
  have hstates : (l.filter fun x => !decide (x.1 = .select)).length ≤ 14 := by
    have hnodup : (l.filter fun x => !decide (x.1 = .select)).Nodup := by
      rw [List.Nodup, List.pairwise_filter]
      refine h.apart.imp fun {x y} hxy hx _ => hxy.resolve_left (by simpa using hx)
    refine (List.subperm_of_subset hnodup (l₂ := stateSources) fun x hx => ?_).length_le
    obtain ⟨hmem, hstate⟩ := List.mem_filter.mp hx
    exact mem_stateSources (h.legal x hmem) (by simpa using hstate)
  have hsplit := l.length_eq_countP_add_countP (fun x => decide (x.1 = .select))
  have hcount := List.countP_eq_length_filter (p := fun x => !decide (x.1 = .select)) (l := l)
  have hselects := h.selects
  simp only [Bool.decide_eq_true, decide_not] at hsplit
  omega

end Notices

section FrameStart

variable {s : State}

/-! The display frame start (R64) -/

theorem Display.readerStart_raster (x : Display) (route : Option Prog) (comp : Option Table) (raster : Option Raster) :
    Display.readerStart { x with comp := comp, raster := raster } route =
      { x.readerStart route with comp := comp, raster := raster } := by
  simp only [Display.readerStart, Display.takeRoute]
  split <;> rfl

/-- Steps 1 and 2 of a display frame start offer a GROUP notice where the exchange begins. -/
def State.offersExchange (s : State) (d : Side) : State :=
  if (s.tables.group (composeOf d)).state = .swapPending then s.offerNotice .group (composeOf d).code 2 else s

theorem State.offersExchange_tables (s : State) (d : Side) : (s.offersExchange d).tables = s.tables := by
  rw [State.offersExchange]
  split <;> rfl

theorem State.latchComposition_eq (s : State) (d : Side) : s.latchComposition d = { s with
    tables := s.tables.setGroup (composeOf d) (s.tables.group (composeOf d)).frameStart
    notices := (s.offersExchange d).notices
    disp := s.disp.set d { s.disp.get d with
      comp := some ((s.tables.group (composeOf d)).frameStart.active.slice 0 32)
      raster := some ⟨0, false, false⟩ } } := by
  by_cases h : (s.tables.group (composeOf d)).state = .swapPending
  · simp only [State.latchComposition, Group.swaps, State.offersExchange, h, decide_true, if_true]
    cases d <;> rfl
  · simp only [State.latchComposition, Group.swaps, State.offersExchange, h, decide_false, if_false, Bool.false_eq_true]
    rfl

theorem State.latchRoute_eq (s : State) (d : Side) :
    let y := (s.disp.get d).readerStart (routeProg (s.tables.route.read (displayRoute d)))
    s.latchRoute d = { s with
      disp := s.disp.set d y
      notices := if y.reader.picture = (s.disp.get d).reader.picture then s.notices
        else (s.offerPictureNotice d y.reader.picture).notices } := by
  simp only [State.latchRoute]
  split <;> rfl

/-- The display that steps 1 to 5 of a frame start leave. -/
def State.latchedDisplay (s : State) (d : Side) : Display :=
  { (s.disp.get d).readerStart (routeProg (s.tables.route.read (displayRoute d))) with
    comp := some ((s.tables.group (composeOf d)).frameStart.active.slice 0 32)
    raster := some ⟨0, false, false⟩
    menu := s.snapshot d
    banner := s.bannerLatch d }

/-- The notices that steps 1 to 5 of a frame start leave: GROUP before PICTURE (log 12). -/
def State.latchedNotices (s : State) (d : Side) : NoticeQueue :=
  let picture := (s.latchedDisplay d).reader.picture
  if picture = (s.disp.get d).reader.picture then (s.offersExchange d).notices
  else ((s.offersExchange d).offerPictureNotice d picture).notices

/-- The state that steps 1 to 5 of a frame start leave. -/
def State.latched (s : State) (d : Side) : State := { s with
  tables := s.tables.setGroup (composeOf d) (s.tables.group (composeOf d)).frameStart
  notices := s.latchedNotices d
  disp := s.disp.set d (s.latchedDisplay d) }

theorem State.latches_eq (s : State) (d : Side) :
    ((s.latchComposition d).latchRoute d).latchMenu d = s.latched d := by
  rw [State.latchRoute_eq, s.latchComposition_eq]
  simp only [Pair.get_set_same, Display.readerStart_raster, State.latched, State.latchedNotices,
    State.offerPictureNotice, State.offerNotice_notices, State.offersExchange_tables]
  cases d <;> rfl

theorem State.offerPicture_frame (s : State) (p : UpPicture) : s.offerPicture p = { s with
    tables := { s.tables with stats := (s.offerPicture p).tables.stats }, rear := (s.offerPicture p).rear } := by
  rcases s.offerPicture_cases p with ⟨-, he⟩ | ⟨-, -, he⟩ | ⟨-, -, he⟩
  · rw [he]; rfl
  · rw [he]
  · rw [he]; rfl

theorem State.latchMirror_frame (s : State) (d : Side) : s.latchMirror d = { s with
    tables := { s.tables with stats := (s.latchMirror d).tables.stats }
    mirror := (s.latchMirror d).mirror
    rear := (s.latchMirror d).rear } := by
  cases d with
  | b => rfl
  | a =>
    simp only [State.latchMirror]
    split
    · rw [State.offerPicture_mirror]
      exact State.offerPicture_frame { s with mirror := ⟨some s.mirror.tag, s.mirror.tag + 1⟩ } _
    · rfl

theorem State.latchMirror_unmirrored {d : Side} (h : ¬ (d = .a ∧ s.rear.actual = .mirror)) :
    s.latchMirror d = { s with mirror := if d = .a then { s.mirror with frame := none } else s.mirror } := by
  cases d with
  | a => exact if_neg fun hmirror => h ⟨rfl, hmirror⟩
  | b => rfl

theorem State.latchMirror_mirrored (h : s.rear.actual = .mirror) :
    s.latchMirror .a = State.offerPicture { s with mirror := ⟨some s.mirror.tag, s.mirror.tag + 1⟩ }
      (.mark .mirror s.mirror.tag (displayWidth s.tables.raster .a) (displayHeight s.tables.raster .a)) :=
  if_pos h

/-- The mark that display A offers for a mirrored frame (R74). -/
def State.mirrorMark (s : State) : UpPicture :=
  .mark .mirror s.mirror.tag (displayWidth s.tables.raster .a) (displayHeight s.tables.raster .a)

theorem State.latchMirror_tag (h : s.rear.actual = .mirror) :
    (s.latchMirror .a).mirror = ⟨some s.mirror.tag, s.mirror.tag + 1⟩ := by
  rw [State.latchMirror_mirrored h, State.offerPicture_mirror]

theorem State.latchMirror_room (h : s.rear.actual = .mirror) (hup : s.link.up = true)
    (hroom : s.rear.queue.length < 4) :
    (s.latchMirror .a).rear = { s.rear with queue := s.rear.queue ++ [s.mirrorMark] } ∧
    (s.latchMirror .a).tables.stats = s.tables.stats := by
  have he := State.offerPicture_room (s := { s with mirror := ⟨some s.mirror.tag, s.mirror.tag + 1⟩ }) hup hroom
  rw [State.latchMirror_mirrored h, he]
  exact ⟨rfl, rfl⟩

theorem State.latchMirror_full (h : s.rear.actual = .mirror) (hup : s.link.up = true)
    (hfull : 4 ≤ s.rear.queue.length) :
    (s.latchMirror .a).rear = s.rear ∧ (s.latchMirror .a).tables.stats = (s.bump 15 1).tables.stats := by
  have he := State.offerPicture_full (s := { s with mirror := ⟨some s.mirror.tag, s.mirror.tag + 1⟩ }) hup hfull
  rw [State.latchMirror_mirrored h, he]
  exact ⟨rfl, rfl⟩

theorem State.latchMirror_down (h : s.rear.actual = .mirror) (hdown : s.link.up = false) :
    (s.latchMirror .a).rear = s.rear ∧ (s.latchMirror .a).tables.stats = (s.bump 2 1).tables.stats := by
  have he := State.offerPicture_down (s := { s with mirror := ⟨some s.mirror.tag, s.mirror.tag + 1⟩ }) hdown
  rw [State.latchMirror_mirrored h, he]
  exact ⟨rfl, rfl⟩

theorem State.bannerLatch_eq (s : State) (d : Side) : s.bannerLatch d = (s.menus.get d).banner.map fun _ =>
    ⟨s.tables.mixer.nat (stepWord d), s.tables.control.nat 19, s.tables.control.nat 20⟩ := by
  rw [State.bannerLatch, State.menuOf]
  cases (s.menus.get d).banner <;> rfl

theorem exec_displayFrameStart_due {d : Side} (h : s.held = none) (hmedia : s.unit.service = .media)
    (hraster : ∀ r, (s.disp.get d).raster = some r → displayHeight s.tables.raster d ≤ r.row ∧ r.bottom = true) :
    exec (.displayFrameStart d) s = .next (s.displayFrameStart d) := by
  have hdue : s.frameDue d = true := by
    cases hr : (s.disp.get d).raster with
    | none => simp [State.frameDue, State.media, hmedia, hr]
    | some r => simp [State.frameDue, State.media, hmedia, hr, hraster r hr]
  rw [exec, execDisplayFrameStart, whenLive_live h, if_pos hdue]

end FrameStart

/-- Settles O54: cabin time modulo 2^32, the three cases of an offer, and the count of the sources of Table 2-8. -/
theorem cabinTimeAndNotices : Obligations.CabinTimeAndNotices := by
  refine ⟨fun s hs => ⟨_, exec_cabinTimeTick hs, rfl, cabinTime_succ _⟩, fun s kind detail value => ?offer,
    fun q h => ?bound⟩
  case offer =>
    intro q t enabled
    have henabled : noticeEnabled s.tables.control kind = true ↔ enabled := by
      cases kind <;> exact decide_eq_true_iff
    have hrecords : t.notices = q.offer (noticeEnabled s.tables.control kind) kind detail value := rfl
    have hon (h : enabled) : t.notices = q.offer true kind detail value := by rw [hrecords, henabled.mpr h]
    refine ⟨?_, fun hoff => ?_, fun hen hnone => ?_, fun before n after hen hq hkind hdetail hothers => ?_⟩
    · exact s.offerNotice_frame kind detail value
    · have hdisabled : noticeEnabled s.tables.control kind = false := by simpa using henabled.not.mpr hoff
      exact State.offerNotice_off detail value hdisabled
    · rw [hon hen, NoticeQueue.offer_new value fun n hn => decide_eq_false (hnone n hn)]
    · rw [hon hen, NoticeQueue.offer_replaces value hq ⟨hkind, hdetail⟩ hothers]
  case bound =>
    have hlength := ((q.sound_iff).mp h).length_le
    rwa [List.length_map] at hlength

/-- Settles O37: steps 1 to 5 of the frame start as one equation, then step 6 by cases of the view and the link. -/
theorem displayFrameStartLatches : Obligations.DisplayFrameStartLatches := by
  intro s d hs hmedia hraster g g' reader mirrors offers
  have hstart : s.displayFrameStart d = (s.latched d).latchMirror d := congrArg (State.latchMirror · d) (s.latches_eq d)
  have hframe := hstart.trans (State.latchMirror_frame _ d)
  rw [← hstart] at hframe
  have hdisp : (s.displayFrameStart d).disp = s.disp.set d (s.latchedDisplay d) := congrArg State.disp hframe
  have hnotices : (s.displayFrameStart d).notices = s.latchedNotices d := congrArg State.notices hframe
  have hdisplay : (s.displayFrameStart d).disp.get d = s.latchedDisplay d := by rw [hdisp, Pair.get_set_same]
  refine ⟨s.displayFrameStart d, exec_displayFrameStart_due hs hmedia hraster, ?_, fun e he => ?_,
    fun i hi => ?_, ?_, ?_, ?_, ?_, ?_, ?_, fun hplain => ?_, fun hmirror => ?_⟩
  · rw [hdisp, hnotices]
    exact hframe
  · rw [hdisp, Pair.get_set_other _ _ he]
  · exact ⟨_, congrArg Display.comp hdisplay, Table.read_slice _ (Nat.zero_le i) hi⟩
  · rw [hdisplay]
    rfl
  · rw [hdisplay]
    rfl
  · exact congrArg Display.raster hdisplay
  · exact congrArg Display.menu hdisplay
  · exact (congrArg Display.banner hdisplay).trans (s.bannerLatch_eq d)
  · exact hnotices
  · rw [hstart.trans (State.latchMirror_unmirrored (s := s.latched d) hplain)]
    exact ⟨by split <;> rfl, rfl, by cases d <;> rfl⟩
  · obtain ⟨rfl, hview⟩ := hmirror
    rw [hstart]
    have hlatched : (s.latched .a).rear.actual = .mirror := hview
    exact ⟨State.latchMirror_tag hlatched, State.latchMirror_room hlatched, State.latchMirror_full hlatched,
      State.latchMirror_down hlatched⟩

end Sys2Proof.Machine
end

section
/-! The checks of the raster descriptors, composition banks, camera descriptors and guide fields (O20). -/

namespace Sys2Proof.Machine

open Sys2Proof

section Checks

/-! The first failing test -/

/-- The first condition of a list that does not hold names `w`. -/
def FirstFails (tests : List (Prop × Nat)) (w : Nat) : Prop :=
  ∃ before p after, tests = before ++ (p, w) :: after ∧ ¬ p ∧ ∀ x ∈ before, x.1

variable {p q : Prop} {v w : Nat} {ok ok' : Bool} {tests tests' : List (Bool × Nat)} {conds conds' : List (Prop × Nat)}

theorem not_firstFails_nil : ¬ FirstFails [] w := by
  rintro ⟨before, p, after, h, -⟩
  simp at h

theorem firstFails_cons : FirstFails ((p, v) :: conds) w ↔ ¬ p ∧ v = w ∨ p ∧ FirstFails conds w := by
  constructor
  · rintro ⟨before, p', after, h, hfails, hpass⟩
    cases before with
    | nil =>
      obtain ⟨⟨rfl, rfl⟩, rfl⟩ : (p = p' ∧ v = w) ∧ conds = after := by simpa using h
      exact .inl ⟨hfails, rfl⟩
    | cons x before =>
      obtain ⟨rfl, rfl⟩ : (p, v) = x ∧ conds = before ++ (p', w) :: after := by simpa using h
      obtain ⟨hp, hbefore⟩ := List.forall_mem_cons.mp hpass
      exact .inr ⟨hp, before, p', after, rfl, hfails, hbefore⟩
  · rintro (⟨hp, rfl⟩ | ⟨hp, before, p', after, rfl, hfails, hpass⟩)
    · exact ⟨[], p, conds, rfl, hp, by simp⟩
    · exact ⟨(p, v) :: before, p', after, rfl, hfails, List.forall_mem_cons.mpr ⟨hp, hpass⟩⟩

/-- No condition fails first where all hold. -/
theorem forall_not_firstFails_iff (conds : List (Prop × Nat)) : (∀ w, ¬ FirstFails conds w) ↔ ∀ x ∈ conds, x.1 := by
  induction conds with
  | nil => simp [not_firstFails_nil]
  | cons c conds ih =>
    obtain ⟨p, v⟩ := c
    rw [List.forall_mem_cons, ← ih]
    by_cases hp : p
    · simp [firstFails_cons, hp]
    · simp [firstFails_cons, hp]

theorem firstFailing_cons_some : firstFailing ((ok, v) :: tests) = some w ↔
    ¬ ok = true ∧ v = w ∨ ok = true ∧ firstFailing tests = some w := by
  rw [firstFailing_cons]
  cases ok <;> simp

/-- A test list decides a condition list: it names the word of the first condition that does not hold. -/
def Decides (tests : List (Bool × Nat)) (conds : List (Prop × Nat)) : Prop :=
  ∀ w, firstFailing tests = some w ↔ FirstFails conds w

theorem Decides.nil : Decides [] [] := fun w => by simp [firstFailing, not_firstFails_nil]

theorem Decides.cons (h : ok = true ↔ p) (hrest : Decides tests conds) :
    Decides ((ok, v) :: tests) ((p, v) :: conds) := fun w => by
  rw [firstFailing_cons_some, firstFails_cons, h, hrest w]

theorem Decides.test [Decidable p] (hrest : Decides tests conds) :
    Decides ((decide p, v) :: tests) ((p, v) :: conds) := hrest.cons decide_eq_true_iff

/-- One test may stand for two conditions on one word. -/
theorem Decides.both (h : ok = true ↔ p) (h' : ok' = true ↔ q) (hrest : Decides tests conds) :
    Decides ((ok && ok', v) :: tests) ((p, v) :: (q, v) :: conds) := fun w => by
  rw [firstFailing_cons_some, firstFails_cons, firstFails_cons, Bool.and_eq_true, h, h', hrest w]
  tauto

theorem Decides.none_iff (h : Decides tests conds) : firstFailing tests = none ↔ ∀ x ∈ conds, x.1 := by
  rw [← forall_not_firstFails_iff, Option.eq_none_iff_forall_ne_some]
  exact forall_congr' fun w => (h w).not

theorem firstFailing_append (tests tests' : List (Bool × Nat)) :
    firstFailing (tests ++ tests') = (firstFailing tests).or (firstFailing tests') := by
  induction tests with
  | nil => rfl
  | cons x tests ih =>
    obtain ⟨ok, v⟩ := x
    rw [List.cons_append, firstFailing_cons, firstFailing_cons, ih]
    cases ok <;> rfl

theorem firstFails_append : FirstFails (conds ++ conds') w ↔
    FirstFails conds w ∨ (∀ x ∈ conds, x.1) ∧ FirstFails conds' w := by
  induction conds with
  | nil => simp [not_firstFails_nil]
  | cons c conds ih =>
    obtain ⟨p, v⟩ := c
    rw [List.cons_append, firstFails_cons, firstFails_cons, ih, List.forall_mem_cons]
    tauto

/-- The second list matters only where every condition of the first holds. -/
theorem Decides.append (h : Decides tests conds) (h' : (∀ x ∈ conds, x.1) → Decides tests' conds') :
    Decides (tests ++ tests') (conds ++ conds') := by
  intro w
  rw [firstFailing_append, firstFails_append, ← h w]
  by_cases hpass : ∀ x ∈ conds, x.1
  · rw [h.none_iff.mpr hpass, Option.none_or, h' hpass w, iff_true_intro hpass]
    simp
  · obtain ⟨v, hv⟩ := Option.ne_none_iff_exists'.mp (h.none_iff.not.mpr hpass)
    rw [hv, Option.some_or, iff_false_intro hpass]
    simp

theorem Decides.map {l : List Nat} {ok : Nat → Bool} {p : Nat → Prop} {v : Nat → Nat} (h : ∀ j ∈ l, ok j = true ↔ p j) :
    Decides (l.map fun j => (ok j, v j)) (l.map fun j => (p j, v j)) := by
  induction l with
  | nil => exact .nil
  | cons j l ih => exact (ih fun k hk => h k (List.mem_cons_of_mem _ hk)).cons (h j List.mem_cons_self)

theorem firstFailing_of_passed (after : List (Bool × Nat)) (w : Nat) {before : List (Bool × Nat)}
    (h : ∀ x ∈ before, x.1 = true) : firstFailing (before ++ (false, w) :: after) = some w := by
  induction before with
  | nil => rfl
  | cons x before ih =>
    obtain ⟨hx, hbefore⟩ := List.forall_mem_cons.mp h
    rw [List.cons_append, firstFailing_cons, if_pos hx, ih hbefore]

theorem firstFailing_iff (tests : List (Bool × Nat)) (w : Nat) : firstFailing tests = some w ↔
    ∃ before after, tests = before ++ (false, w) :: after ∧ ∀ x ∈ before, x.1 = true := by
  refine ⟨fun h => ?_, fun ⟨before, after, h, hpass⟩ => h ▸ firstFailing_of_passed after w hpass⟩
  induction tests with
  | nil => cases h
  | cons x tests ih =>
    obtain ⟨ok, v⟩ := x
    cases ok with
    | false => exact ⟨[], tests, by rw [← Option.some.inj h]; rfl, by simp⟩
    | true =>
      obtain ⟨before, after, rfl, hpass⟩ := ih h
      exact ⟨(true, v) :: before, after, rfl, List.forall_mem_cons.mpr ⟨rfl, hpass⟩⟩

/-- The named words may be moved by a base. -/
theorem firstFailing_map (f : Nat → Nat) (tests : List (Bool × Nat)) :
    (firstFailing tests).map f = firstFailing (tests.map fun x => (x.1, f x.2)) := by
  induction tests with
  | nil => rfl
  | cons x tests ih =>
    obtain ⟨ok, v⟩ := x
    rw [List.map_cons, firstFailing_cons, firstFailing_cons, ← ih]
    cases ok <;> rfl

/-! Raster descriptors (Table 4-3) -/

/-- Table 4-3 with the words of RASTER that its tests name. -/
def rasterConditions (raster : Table) (d : Side) : List (Prop × Nat) :=
  let base := rasterBase d
  let f (k : Nat) := raster.nat (base + k)
  [(f 0 ≤ 3, base), (64 ≤ f 1 ∧ f 1 ≤ 2047, base + 1), (1 ≤ f 2, base + 2), (f 2 < f 3, base + 3),
    (16 ≤ f 4 ∧ f 4 ≤ 1280 ∧ f 4 % 2 = 0, base + 4), (f 3 + f 4 ≤ f 1, base + 4), (16 ≤ f 5 ∧ f 5 ≤ 1023, base + 5),
    (1 ≤ f 6, base + 6), (f 6 < f 7, base + 7), (16 ≤ f 8 ∧ f 8 ≤ 800, base + 8), (f 7 + f 8 ≤ f 5, base + 8)]

theorem rasterTests_decides (raster : Table) (d : Side) :
    Decides ((rasterTests raster d).map fun x => (x.1, rasterBase d + x.2)) (rasterConditions raster d) :=
  .test <| .test <| .test <| .test <| .test <| .test <| .test <| .test <| .test <| .test <| .test .nil

theorem rasterFailure_iff (raster : Table) (d : Side) (w : Nat) :
    rasterFailure raster d = some w ↔ FirstFails (rasterConditions raster d) w := by
  rw [rasterFailure, firstFailing_map]
  exact rasterTests_decides raster d w

theorem rasterFailure_none_iff (raster : Table) (d : Side) :
    rasterFailure raster d = none ↔ ∀ x ∈ rasterConditions raster d, x.1 := by
  rw [rasterFailure, firstFailing_map]
  exact (rasterTests_decides raster d).none_iff

/-! Composition banks (Table 4-5) -/

/-- A column or row lies within the active width or height, where the descriptor gives them. -/
def FitsWidth (size : Option (Nat × Nat)) (x : Nat) : Prop := ∀ width height, size = some (width, height) → x ≤ width

def FitsHeight (size : Option (Nat × Nat)) (y : Nat) : Prop :=
  ∀ width height, size = some (width, height) → y ≤ height

/-- Table 4-5: each word's own range, then its placement. -/
def composeConditions (bank : Table) (size : Option (Nat × Nat)) : List (Prop × Nat) :=
  let f := bank.nat
  [(f 0 ≤ 63, 0), (f 1 ≤ 1279, 1), (f 2 ≤ 799, 2), (1 ≤ f 3 ∧ f 3 ≤ 1280, 3), (FitsWidth size (f 1 + f 3), 3),
    (1 ≤ f 4 ∧ f 4 ≤ 800, 4), (FitsHeight size (f 2 + f 4), 4), (f 5 = 1 ∨ f 5 = 2, 5), (f 6 ≤ 63, 6), (f 7 ≤ 3, 7),
    (f 8 ≤ 1279, 8), (FitsWidth size (f 8 + 256), 8), (f 9 ≤ 799, 9), (FitsHeight size (f 9 + 192), 9),
    (f 10 ≤ 1279, 10), (FitsWidth size (f 10 + 320), 10), (f 11 ≤ 799, 11), (FitsHeight size (f 11 + 16), 11),
    (f 12 ≤ 15, 12), (f 13 ≤ 10000, 13)]

theorem composeTests_decides (bank : Table) (size : Option (Nat × Nat)) :
    Decides (composeTests bank size) (composeConditions bank size) := by
  unfold composeTests
  extract_lets f fitsX fitsY
  have hwidth : ∀ x, fitsX x = true ↔ FitsWidth size x := by
    rcases size with _ | ⟨w, h⟩ <;> simp [fitsX, FitsWidth]
  have hheight : ∀ y, fitsY y = true ↔ FitsHeight size y := by
    rcases size with _ | ⟨w, h⟩ <;> simp [fitsY, FitsHeight]
  have hplaced {p q : Prop} [Decidable p] {v : Nat} {ok : Bool} {tests : List (Bool × Nat)} {conds : List (Prop × Nat)}
      (h : ok = true ↔ q) (hrest : Decides tests conds) :
      Decides ((decide p && ok, v) :: tests) ((p, v) :: (q, v) :: conds) := .both decide_eq_true_iff h hrest
  exact .test <| .test <| .test <| hplaced (hwidth _) <| hplaced (hheight _) <| .test <| .test <| .test <|
    hplaced (hwidth _) <| hplaced (hheight _) <| hplaced (hwidth _) <| hplaced (hheight _) <| .test <| .test .nil

/-! Camera descriptors (Table 6-2) -/

def descriptorConditions (bank : Table) : List (Prop × Nat) :=
  let f := bank.nat
  [(64 ≤ f 0 ∧ f 0 ≤ 4095, 0), (16 ≤ f 1 ∧ f 1 ≤ 2047, 1), (1 ≤ f 2, 2), (1 ≤ f 3, 3),
    (16 ≤ f 4 ∧ f 4 ≤ 1280 ∧ f 4 % 2 = 0, 4), (f 2 + f 4 ≤ f 0, 4), (16 ≤ f 5 ∧ f 5 ≤ 800, 5),
    (f 3 + f 5 ≤ f 1, 5), (f 6 ≤ 2047 ∧ f 6 < f 0, 6), (10000 ≤ f 7 ∧ f 7 ≤ 60000, 7), (f 8 ≤ 63, 8),
    (f 9 ≤ 16, 9), (f 10 + 16 * f 9 ≤ f 4, 10), (f 11 + 16 ≤ f 5, 11), (f 12 ≤ 15, 12)]

theorem descriptorTests_decides (bank : Table) : Decides (descriptorTests bank) (descriptorConditions bank) :=
  .test <| .test <| .test <| .test <| .test <| .test <| .test <| .test <| .test <| .test <| .test <| .test <| .test <|
    .test <| .test .nil

/-! Guide fields (Table 7-3) -/

/-- The conditions of Table 7-3 before its lists. -/
def guideFieldConditions (bank : Table) (height : Nat) : List (Prop × Nat) :=
  let f := bank.nat
  [(f 32 ≤ 1, 32), (f 33 ≤ 1, 33), (f 34 ≤ 1, 34), (f 35 < f 36, 35), (f 36 < height, 36),
    ((f 36 - f 35) % 16 = 0, 36), (2 ≤ f 37 ∧ f 37 ≤ 17, 37), (1 ≤ f 38 ∧ f 38 ≤ 64, 38),
    (1 ≤ f 39 ∧ f 39 ≤ f 38, 39), (1 ≤ f 40, 40), (f 40 < f 41, 41), (f 41 < f 42 ∧ f 42 ≤ f 36 - f 35, 42),
    (1 ≤ f 43 ∧ f 43 ≤ 8, 43)]

def KeyCondition (bank : Table) (j : Nat) : Prop :=
  -4095 ≤ bank.int (54 + j) ∧ bank.int (54 + j) ≤ 4095 ∧ (j ≠ 0 → bank.int (54 + (j - 1)) < bank.int (54 + j))

def PositionCondition (bank : Table) (k : Nat) : Prop := -8192 ≤ bank.int k ∧ bank.int k ≤ 8191

/-- The steer keys and the positions of Table 7-3. -/
def guideListConditions (bank : Table) : List (Prop × Nat) :=
  (List.range (bank.nat 37)).map (fun j => (KeyCondition bank j, 54 + j)) ++
    (List.range 18).map (fun k => (PositionCondition bank (72 + k), 72 + k)) ++
    (List.range (18 * bank.nat 37)).map (fun k => (PositionCondition bank (96 + k), 96 + k))

theorem keyLegal_iff (bank : Table) (j : Nat) : keyLegal bank j = true ↔ KeyCondition bank j := by
  rw [keyLegal, decide_eq_true_iff, KeyCondition, ← or_iff_not_imp_left]
  rfl

theorem keyCondition_iff (bank : Table) (j : Nat) : KeyCondition bank j ↔ -4095 ≤ bank.int (54 + j) ∧
    bank.int (54 + j) ≤ 4095 ∧ (1 ≤ j → bank.int (54 + j - 1) < bank.int (54 + j)) := by
  cases j with
  | zero => simp [KeyCondition]
  | succ j => simp [KeyCondition, ← Nat.add_assoc]

theorem forall_mem_range_map_iff (n : Nat) (p : Nat → Prop) (v : Nat → Nat) :
    (∀ x ∈ (List.range n).map fun k => (p k, v k), x.1) ↔ ∀ k, k < n → p k := by
  rw [List.forall_mem_map]
  exact forall_congr' fun k => imp_congr_left List.mem_range

theorem guideListConditions_iff (bank : Table) : (∀ x ∈ guideListConditions bank, x.1) ↔
    (∀ j, j < bank.nat 37 → -4095 ≤ bank.int (54 + j) ∧ bank.int (54 + j) ≤ 4095 ∧
      (1 ≤ j → bank.int (54 + j - 1) < bank.int (54 + j))) ∧
    (∀ k, k < 18 → PositionCondition bank (72 + k)) ∧
    ∀ k, k < 18 * bank.nat 37 → PositionCondition bank (96 + k) := by
  rw [guideListConditions, List.forall_mem_append, List.forall_mem_append, and_assoc, forall_mem_range_map_iff,
    forall_mem_range_map_iff, forall_mem_range_map_iff]
  exact and_congr_left' (forall_congr' fun j => imp_congr_right fun _ => keyCondition_iff bank j)

theorem guideFieldConditions_keys {bank : Table} {height : Nat} (h : ∀ x ∈ guideFieldConditions bank height, x.1) :
    bank.nat 37 ≤ 17 := by
  have hkeys := h (2 ≤ bank.nat 37 ∧ bank.nat 37 ≤ 17, 37) (by simp [guideFieldConditions])
  exact hkeys.2

theorem guideTests_decides (bank : Table) (height : Nat) :
    Decides (guideTests bank height) (guideFieldConditions bank height ++ guideListConditions bank) := by
  rw [guideTests, List.append_assoc, List.append_assoc]
  refine Decides.append ?fields fun hfields => ?lists
  case fields =>
    exact .test <| .test <| .test <| .test <| .test <| .test <| .test <| .test <| .test <| .test <| .test <| .test <|
      .test .nil
  case lists =>
    have hkeys : min (keyCount bank) 17 = bank.nat 37 := Nat.min_eq_left (guideFieldConditions_keys hfields)
    rw [hkeys, guideListConditions, List.append_assoc]
    exact (Decides.map fun j _ => keyLegal_iff bank j).append fun _ =>
      (Decides.map fun k _ => decide_eq_true_iff).append fun _ => Decides.map fun k _ => decide_eq_true_iff

end Checks

/-- Settles O20: each test list decides the conditions of its table. -/
theorem checkedBanksHoldLegalWords : Obligations.CheckedBanksHoldLegalWords := by
  refine ⟨fun raster d w => ?_, fun bank size w => composeTests_decides bank size w,
    fun bank w => descriptorTests_decides bank w, fun bank height w => ?_, fun raster d => ?_, fun bank size => ?_,
    fun bank => ?_, fun bank height => ?_, firstFailing_iff⟩
  · cases d <;> exact rasterFailure_iff raster _ w
  · have hguide := guideTests_decides bank height w
    rw [guideListConditions, ← List.append_assoc, ← List.append_assoc] at hguide
    exact hguide
  · rw [rasterFailure_none_iff]
    cases d <;> simp [rasterConditions, and_assoc, rasterBase]
  · rw [composeFailure, (composeTests_decides bank size).none_iff]
    rcases size with _ | ⟨width, height⟩ <;> simp [composeConditions, FitsWidth, FitsHeight]
    all_goals omega
  · rw [descriptorFailure, (descriptorTests_decides bank).none_iff]
    simp [descriptorConditions, and_assoc]
  · rw [guideFailure, (guideTests_decides bank height).none_iff, List.forall_mem_append,
      guideListConditions_iff]
    exact and_congr (by simp [guideFieldConditions, and_assoc]) Iff.rfl

end Sys2Proof.Machine
end

section
/-! The tests of a PUT, in their order (O17). -/

namespace Sys2Proof.Machine

open Sys2Proof

section PutTests

variable {s x : State} {t : TableId} {i k n : Nat} {ws : List Word} {c : ChimeEngine}

/-! The tests of R20 one by one -/

theorem anyIndex_iff (i n : Nat) (p : Nat → Bool) : anyIndex i n p = true ↔ ∃ k, k < n ∧ p (i + k) = true := by
  simp [anyIndex]

theorem ne_nil_of_lt (h : k < ws.length) : ws ≠ [] := List.length_pos_iff.mp (Nat.zero_lt_of_lt h)

/-- Some word of a run may not be written. -/
def Unwritable (t : TableId) (i n : Nat) : Prop := ∃ k, k < n ∧ wordWritable t (i + k) = false

/-- Some word of a run is IN_USE. -/
def State.RunInUse (s : State) (t : TableId) (i n : Nat) : Prop := ∃ k, k < n ∧ s.wordInUse t (i + k) = true

/-- The run lies in an active camera bank that the hold does not open to writes. -/
def State.BankLocked (s : State) (t : TableId) : Prop :=
  t = .cameraActive ∧ ¬ (s.guide.hold = .held ∧ s.guide.holdRequest = true)

theorem unwritable_iff (t : TableId) (i n : Nat) :
    (anyIndex i n fun k => !wordWritable t k) = true ↔ Unwritable t i n := by
  simp [anyIndex_iff, Unwritable]

theorem State.bankLocked_iff (s : State) (t : TableId) :
    (t = .cameraActive ∧ (!s.bankWritable) = true) ↔ s.BankLocked t := by
  rw [State.BankLocked, State.bankWritable, Bool.not_eq_true', ← Bool.not_eq_true, Bool.and_eq_true, decide_eq_true_iff]

theorem State.putRefusal_table (h : Unwritable t i ws.length) : s.putRefusal t i ws = some (.table, []) := by
  have hne : ws ≠ [] := h.elim fun k hk => ne_nil_of_lt hk.1
  rw [State.putRefusal, if_neg hne, if_pos ((unwritable_iff t i _).mpr h)]

theorem State.putRefusal_state (hne : ws ≠ []) (hw : ¬ Unwritable t i ws.length) (hlocked : s.BankLocked t) :
    s.putRefusal t i ws = some (.state, []) := by
  rw [State.putRefusal, if_neg hne, if_neg ((unwritable_iff t i _).not.mpr hw),
    if_pos ((s.bankLocked_iff t).mpr hlocked)]

theorem State.putRefusal_pending (hne : ws ≠ []) (hw : ¬ Unwritable t i ws.length) (hopen : ¬ s.BankLocked t)
    (hbusy : s.groupBusy t = true) : s.putRefusal t i ws = some (.pending, []) := by
  rw [State.putRefusal, if_neg hne, if_neg ((unwritable_iff t i _).not.mpr hw),
    if_neg ((s.bankLocked_iff t).not.mpr hopen), if_pos hbusy]

/-- A run that reaches the last two tests. -/
theorem State.putRefusal_reaches (hne : ws ≠ []) (hw : ¬ Unwritable t i ws.length) (hopen : ¬ s.BankLocked t)
    (hidle : ¬ s.groupBusy t = true) : s.putRefusal t i ws =
      if anyIndex i ws.length (s.wordInUse t) then some (.inUse, [])
      else (firstIllegal t i ws).map fun k => (.value, [BitVec.ofNat 16 k]) := by
  rw [State.putRefusal, if_neg hne, if_neg ((unwritable_iff t i _).not.mpr hw),
    if_neg ((s.bankLocked_iff t).not.mpr hopen), if_neg hidle]

theorem firstIllegal_eq_some (hk : k < ws.length) (hillegal : ¬ wordLegal t (i + k) (ws.getD k 0) = true)
    (hbefore : ∀ j, j < k → wordLegal t (i + j) (ws.getD j 0) = true) : firstIllegal t i ws = some (i + k) := by
  induction ws generalizing i k with
  | nil => cases hk
  | cons w ws ih =>
    cases k with
    | zero => exact if_neg hillegal
    | succ k =>
      have hfirst : wordLegal t i w = true := hbefore 0 (Nat.zero_lt_succ k)
      rw [firstIllegal, if_pos hfirst]
      have hnext := ih (i := i + 1) (Nat.lt_of_succ_lt_succ hk) (by rwa [Nat.add_right_comm])
        fun j hj => by rw [Nat.add_right_comm]; exact hbefore (j + 1) (Nat.succ_lt_succ hj)
      rw [hnext, Nat.add_right_comm, Nat.add_assoc]

theorem firstIllegal_eq_none (h : ∀ k, k < ws.length → wordLegal t (i + k) (ws.getD k 0) = true) :
    firstIllegal t i ws = none :=
  (firstIllegal_none_iff t i ws).mpr fun k hk => by
    rw [← List.getD_eq_getElem ws 0 hk]
    exact h k hk

theorem State.putRefusal_inUse_reply (hne : ws ≠ []) (hw : ¬ Unwritable t i ws.length) (hopen : ¬ s.BankLocked t)
    (hidle : ¬ s.groupBusy t = true) (huse : s.RunInUse t i ws.length) : s.putRefusal t i ws = some (.inUse, []) := by
  rw [State.putRefusal_reaches hne hw hopen hidle, if_pos ((anyIndex_iff ..).mpr huse)]

theorem State.putRefusal_value (hw : ¬ Unwritable t i ws.length) (hopen : ¬ s.BankLocked t)
    (hidle : ¬ s.groupBusy t = true) (hfree : ¬ s.RunInUse t i ws.length) (hk : k < ws.length)
    (hillegal : ¬ wordLegal t (i + k) (ws.getD k 0) = true)
    (hbefore : ∀ j, j < k → wordLegal t (i + j) (ws.getD j 0) = true) :
    s.putRefusal t i ws = some (.value, [BitVec.ofNat 16 (i + k)]) := by
  rw [State.putRefusal_reaches (ne_nil_of_lt hk) hw hopen hidle, if_neg ((anyIndex_iff ..).not.mpr hfree),
    firstIllegal_eq_some hk hillegal hbefore]
  rfl

theorem State.putRefusal_passes (hw : ¬ Unwritable t i ws.length) (hopen : ¬ s.BankLocked t)
    (hidle : ¬ s.groupBusy t = true) (hfree : ¬ s.RunInUse t i ws.length)
    (hlegal : ∀ k, k < ws.length → wordLegal t (i + k) (ws.getD k 0) = true) : s.putRefusal t i ws = none := by
  by_cases hne : ws = []
  · rw [State.putRefusal, if_pos hne]
  · rw [State.putRefusal_reaches hne hw hopen hidle, if_neg ((anyIndex_iff ..).not.mpr hfree),
      firstIllegal_eq_none hlegal]
    rfl

theorem State.put_refused {code : ReplyCode} {data : List Word}
    (h : (x.readyFor x.unit.pointer.table).putRefusal x.unit.pointer.table x.unit.pointer.index
      (ws.take (tableSize x.unit.pointer.table - x.unit.pointer.index)) = some (code, data)) :
    x.put ws = .of (x.readyFor x.unit.pointer.table) code data := by
  simp only [State.put, h]

/-! What comes before a PUT of CHIMES or WAVES (log 8) -/

theorem State.readyFor_other (h : t ≠ .chimes) (h' : t ≠ .waves) (s : State) : s.readyFor t = s :=
  if_neg (not_or.mpr ⟨h, h'⟩)

theorem State.readyFor_tables (s : State) (t : TableId) : (s.readyFor t).tables = s.tables := by
  rw [State.readyFor]
  split <;> rfl

theorem State.readyFor_guide (s : State) (t : TableId) : (s.readyFor t).guide = s.guide := by
  rw [State.readyFor]
  split <;> rfl

theorem State.readyFor_groupBusy (s : State) (t t' : TableId) : (s.readyFor t).groupBusy t' = s.groupBusy t' := by
  rw [State.groupBusy, State.groupBusy, State.readyFor_tables]

/-! The words that may be written and their legal values (Tables 2-2, 2-4, 5-1 and 9-2) -/

theorem controlLegal_iff (i : Nat) (w : Word) : controlLegal i w = true ↔
    (i ≤ 8 ∨ i = 18 → w.toNat ≤ 1) ∧ (i = 9 → w.toNat ≤ 2) ∧ (i = 10 → w.toNat ≤ 10000) ∧
      (i = 11 → w.toNat ≤ 8) := by
  unfold controlLegal
  split_ifs <;> simp only [decide_eq_true_eq, true_iff] <;> omega

theorem speedWord_iff (w : Word) : -255 ≤ w.toInt ∧ w.toInt ≤ 255 ↔ w.toNat ≤ 255 ∨ 0xFF01 ≤ w.toNat := by
  rw [BitVec.toInt_eq_toNat_cond]
  have hlt := w.isLt
  split <;> omega

theorem steeringLegal_iff (i : Nat) (w : Word) : steeringLegal i w = true ↔
    (i ≤ 1 → w.toNat ≤ 1) ∧ (i = 2 → w.toNat ≤ 15) ∧ (i = 3 → 1 ≤ w.toNat ∧ w.toNat ≤ 4095) ∧
      (i = 4 → w.toNat ≤ 255 ∨ 0xFF01 ≤ w.toNat) ∧ (i = 5 → w.toNat ≤ 2) := by
  unfold steeringLegal
  split_ifs <;> simp only [decide_eq_true_eq, true_iff, speedWord_iff] <;> omega

theorem mixerLegal_iff (i : Nat) (w : Word) : mixerLegal i w = true ↔
    (i ≤ 20 ∨ 24 ≤ i ∧ i ≤ 30 → w.toNat ≤ 32768) ∧ (21 ≤ i ∧ i ≤ 23 → w.toNat ≤ 20) ∧
      (i = 31 → 1 ≤ w.toNat ∧ w.toNat ≤ 1024) ∧ (32 ≤ i ∧ i ≤ 34 → 1 ≤ w.toNat ∧ w.toNat ≤ 32768) := by
  unfold mixerLegal
  split_ifs <;> simp only [decide_eq_true_eq, true_iff] <;> omega

/-! The words that are IN_USE (R21) -/

/-- A voice sounds a chime. -/
def ChimeEngine.OnVoice (c : ChimeEngine) (n : Nat) : Prop := ∃ v x, c.voices.get v = some x ∧ x.chime = n

def ChimeEngine.Suspends (c : ChimeEngine) (n : Nat) : Prop := ∃ x ∈ c.suspended, x.chime = n

theorem ChimeEngine.voiceOf_isSome_iff : (c.voiceOf n).isSome = true ↔ c.OnVoice n := by
  rw [Option.isSome_iff_ne_none, ne_eq, ChimeEngine.voiceOf_none_iff, ChimeEngine.OnVoice]
  push Not
  rfl

theorem ChimeEngine.suspended_any_iff (p : Nat → Bool) :
    (c.suspended.any fun x => p x.chime) = true ↔ ∃ n, c.Suspends n ∧ p n = true := by
  simp [ChimeEngine.Suspends]

theorem ChimeEngine.holds_iff_somewhere : c.holds n = true ↔ c.OnVoice n ∨ c.Suspends n ∨ n ∈ c.queue := by
  rw [ChimeEngine.holds, ChimeEngine.waits, Bool.or_eq_true, Bool.or_eq_true, ChimeEngine.voiceOf_isSome_iff,
    List.contains_iff_mem, List.any_eq_true, or_comm (a := n ∈ c.queue)]
  simp [ChimeEngine.Suspends]

theorem inSpan_iff (chimes : Table) (n : Nat) (h : i < 65536) : inSpan chimes n i = true ↔
    ∃ k, k < chimes.nat (8 * n + 1) + chimes.nat (8 * n + 2) ∧ i = (chimes.nat (8 * n) + k) % 65536 := by
  have hstart : chimes.nat (8 * n) < 65536 := (chimes.read (8 * n)).isLt
  rw [inSpan, decide_eq_true_iff]
  dsimp only [chimeDesc]
  constructor
  · exact fun hspan => ⟨(i + 65536 - chimes.nat (8 * n)) % 65536, hspan, by omega⟩
  · rintro ⟨k, hk, hi⟩
    omega

theorem ChimeEngine.voices_any_iff (p : Nat → Bool) : ([c.voices.v0, c.voices.v1, c.voices.v2].any fun x => match x with
    | some v => p v.chime
    | none => false) = true ↔ ∃ n, c.OnVoice n ∧ p n = true := by
  rw [show [c.voices.v0, c.voices.v1, c.voices.v2] = [VoiceId.v0, .v1, .v2].map c.voices.get from rfl, List.any_map,
    List.any_eq_true]
  constructor
  · rintro ⟨v, -, hv⟩
    cases hx : c.voices.get v with
    | none => simp [hx] at hv
    | some x => exact ⟨x.chime, ⟨v, x, hx, rfl⟩, by simpa [hx] using hv⟩
  · rintro ⟨n, ⟨v, x, hx, rfl⟩, hp⟩
    exact ⟨v, by cases v <;> simp, by simpa [hx] using hp⟩

theorem ChimeEngine.waveInUse_iff (chimes : Table) (i : Nat) : c.waveInUse chimes i = true ↔
    ∃ n, (c.OnVoice n ∨ c.Suspends n) ∧ inSpan chimes n i = true := by
  have hvoices := c.voices_any_iff fun n => inSpan chimes n i
  have hsuspended := c.suspended_any_iff fun n => inSpan chimes n i
  rw [ChimeEngine.waveInUse, Bool.or_eq_true, hsuspended]
  simp only [or_and_right, exists_or]
  exact or_congr_left hvoices

end PutTests

/-- Settles O17: the tests in their order, then each spelled-out test by its own lemma. -/
theorem putTestsRunInOrder : Obligations.PutTestsRunInOrder := by
  refine ⟨fun s r q h => ?_, fun t i => ?_, fun t i w => ?_, fun s i => ⟨?_, ?_, fun hi => ?_, fun t hr hc hw => ?_⟩⟩
  · intro t i run x refused unwritable locked busy inUse legal
    have hlocked : x.BankLocked t ↔ locked := by
      rw [State.BankLocked, State.readyFor_guide]
      rfl
    have hbusy : x.groupBusy t = true ↔ busy := by
      rw [State.readyFor_groupBusy]
      exact State.groupBusy_iff _ t
    have hput {code : ReplyCode} {data : List Word} (hrefused : x.putRefusal t i run = some (code, data)) :
        exec .put s = refused code data := State.exec_takes_body h (State.put_refused hrefused)
    refine ⟨fun hc hw => State.readyFor_other hc hw _, fun hw => hput (State.putRefusal_table hw),
      fun hne hw hl => hput (State.putRefusal_state hne hw (hlocked.mpr hl)),
      fun hne hw hl hb => hput (State.putRefusal_pending hne hw (hlocked.not.mpr hl) (hbusy.mpr hb)),
      fun hw hl hb hu => hput (State.putRefusal_inUse_reply (hu.elim fun k hk => ne_nil_of_lt hk.1) hw
        (hlocked.not.mpr hl) (hbusy.not.mpr hb) hu),
      fun k hk hw hl hb hu hillegal hbefore => hput (State.putRefusal_value hw (hlocked.not.mpr hl)
        (hbusy.not.mpr hb) hu hk hillegal hbefore), ?_⟩
    rintro (hnil | ⟨hw, hl, hb, hu, hlegal⟩)
    · exact if_pos hnil
    · exact State.putRefusal_passes hw (hlocked.not.mpr hl) (hbusy.not.mpr hb) hu hlegal
  · cases t <;> simp [wordWritable]
  · cases t
    case control => exact controlLegal_iff i w
    case steering => exact steeringLegal_iff i w
    case mixer => exact mixerLegal_iff i w
    case ident => exact decide_eq_true_iff
    case route => exact decide_eq_true_iff
    all_goals exact iff_of_true rfl trivial
  · exact decide_eq_true_iff
  · exact ChimeEngine.holds_iff_somewhere
  · exact (ChimeEngine.waveInUse_iff _ i).trans (exists_congr fun n => and_congr_right fun _ => inSpan_iff _ n hi)
  · cases t
    case raster => exact absurd rfl hr
    case chimes => exact absurd rfl hc
    case waves => exact absurd rfl hw
    all_goals rfl

end Sys2Proof.Machine
end

section
/-! What a PUT that passes its tests stores, and what it leaves as it was (O18). -/

namespace Sys2Proof.Machine

open Sys2Proof

section PutStores

variable {s x u : State} {t t' : TableId} {i j n : Nat} {ws : List Word}

/-! The table that an id names -/

/-- The stored words of a table; IDENT, all of whose words report the part's condition, stores none. -/
def TableStore.bank (store : TableStore) : TableId → Table
  | .ident => []
  | .control => store.control
  | .raster => store.raster
  | .composeA => store.composeA.staging
  | .composeB => store.composeB.staging
  | .route => store.route
  | .steering => store.steering
  | .camera => store.camera.staging
  | .pages => store.pages
  | .items => store.items
  | .tiles => store.tiles
  | .palettes => store.palettes
  | .chimes => store.chimes
  | .waves => store.waves
  | .mixer => store.mixer
  | .stats => store.stats
  | .composeAActive => store.composeA.active
  | .composeBActive => store.composeB.active
  | .cameraActive => store.camera.active

def TableStore.setBank (store : TableStore) (id : TableId) (b : Table) : TableStore :=
  match id with
  | .ident => store
  | .control => { store with control := b }
  | .raster => { store with raster := b }
  | .composeA => { store with composeA := { store.composeA with staging := b } }
  | .composeB => { store with composeB := { store.composeB with staging := b } }
  | .route => { store with route := b }
  | .steering => { store with steering := b }
  | .camera => { store with camera := { store.camera with staging := b } }
  | .pages => { store with pages := b }
  | .items => { store with items := b }
  | .tiles => { store with tiles := b }
  | .palettes => { store with palettes := b }
  | .chimes => { store with chimes := b }
  | .waves => { store with waves := b }
  | .mixer => { store with mixer := b }
  | .stats => { store with stats := b }
  | .composeAActive => { store with composeA := { store.composeA with active := b } }
  | .composeBActive => { store with composeB := { store.composeB with active := b } }
  | .cameraActive => { store with camera := { store.camera with active := b } }

theorem TableStore.bank_setBank_same (store : TableStore) (b : Table) (h : t ≠ .ident) :
    (store.setBank t b).bank t = b := by
  cases t
  case ident => exact absurd rfl h
  all_goals rfl

/-- Two ids name different tables: each bank but the one set is read off the store as it was. -/
theorem TableStore.bank_setBank_other (store : TableStore) (b : Table) (h : t' ≠ t) :
    (store.setBank t b).bank t' = store.bank t' := by
  cases t <;> cases t' <;> first | rfl | exact absurd rfl h

theorem TableStore.bank_wf {store : TableStore} (h : store.fits = true) (t : TableId) : (store.bank t).wf = true := by
  simp only [TableStore.fits, Group.fits, Bool.and_eq_true, and_assoc] at h
  obtain ⟨hcontrol, hraster, hroute, hsteering, hpages, hitems, htiles, hpalettes, hchimes, hwaves, hmixer, hstats,
    hcamera, hcameraActive, hcomposeA, hcomposeAActive, hcomposeB, hcomposeBActive⟩ := h
  cases t
  case ident => rfl
  all_goals exact Table.wf_of_fits (by assumption)

theorem Table.read_writeFrom {b : Table} (h : b.wf = true) (i j : Nat) (ws : List Word) :
    (b.writeFrom i ws).read j = if i ≤ j ∧ j < i + ws.length then ws.getD (j - i) 0 else b.read j := by
  split
  next hin =>
    obtain ⟨k, rfl⟩ := Nat.exists_eq_add_of_le hin.1
    have hk : k < ws.length := by omega
    rw [Table.read_writeFrom_inside h i ws k hk, Nat.add_sub_cancel_left, List.getD_eq_getElem _ _ hk]
  next hout => exact Table.read_writeFrom_outside b ws (by omega)

/-! What a read depends on (R22, R33, R88) -/

/-- What the words of IDENT report. -/
def State.identSource (s : State) : BitVec 4 × Bool × ResetCause × BitVec 32 × Service × Bool :=
  (s.link.strap, s.rear.autocam, s.unit.cause, s.notices.time, s.unit.service, s.rear.bankLoaded)

theorem State.identWord_congr (h : u.identSource = s.identSource) (j : Nat) : u.identWord j = s.identWord j := by
  simp only [State.identSource, Prod.mk.injEq] at h
  obtain ⟨hstrap, hautocam, hcause, htime, hservice, hloaded⟩ := h
  simp only [State.identWord, hstrap, hautocam, hcause, htime, hservice, hloaded]

theorem State.steerWord_congr (hsteer : u.steer = s.steer) (htable : u.tables.steering = s.tables.steering) (j : Nat) :
    u.steerWord j = s.steerWord j := by
  simp only [State.steerWord, hsteer, htable]

theorem State.readWord_bank (s : State) (h : t ≠ .ident) (hsetup : t ≠ .steering ∨ j ≤ 5) :
    s.readWord t j = (s.tables.bank t).read j := by
  cases t
  case ident => exact absurd rfl h
  case steering => exact s.steerWord_setup (Nat.lt_succ_of_le (hsetup.resolve_left (not_not_intro rfl)))
  all_goals rfl

theorem State.readWord_congr (hident : t = .ident → u.identSource = s.identSource)
    (hsteer : t = .steering → u.steer = s.steer) (hbank : u.tables.bank t = s.tables.bank t) (j : Nat) :
    u.readWord t j = s.readWord t j := by
  cases t
  case ident => exact State.identWord_congr (hident rfl) j
  case steering => exact State.steerWord_congr (hsteer rfl) hbank j
  all_goals exact congrArg (Table.read · j) hbank

/-! What a PUT leaves as it was -/

/-- All that a read depends on. -/
def State.readSource (s : State) := (s.identSource, s.tables, s.steer)

theorem State.offerNotice_readSource (s : State) (k : NoticeKind) (d v : Word) :
    (s.offerNotice k d v).readSource = s.readSource := by
  rw [s.offerNotice_frame k d v]
  rfl

theorem State.changeReverse_readSource (s : State) (r : ReverseState) (linger : Option Nat) :
    (s.changeReverse r linger).readSource = s.readSource := by
  rw [State.changeReverse, State.offerReverse, State.offerNotice_readSource]
  simp only [State.followView]
  split <;> rfl

theorem State.evalReverse_readSource (s : State) : s.evalReverse.readSource = s.readSource := by
  unfold State.evalReverse
  split
  · exact s.changeReverse_readSource _ _
  · exact s.changeReverse_readSource _ _
  · split
    · exact s.changeReverse_readSource _ _
    · exact s.changeReverse_readSource _ _
  · rfl

theorem State.putControl_readSource (s : State) (i : Nat) (ws : List Word) : (s.putControl i ws).readSource =
    (s.identSource, { s.tables with control := s.tables.control.writeFrom i ws }, s.steer) := by
  simp only [State.putControl]
  split
  · exact State.evalReverse_readSource _
  · rfl

theorem State.putSteering_identSource (s : State) (i : Nat) (ws : List Word) :
    (s.putSteering i ws).identSource = s.identSource := by
  rcases Nat.lt_or_ge 5 i with hi | hi
  · rw [State.putSteering_flag hi]
    rfl
  · rw [State.putSteering_setup hi]
    simp only [State.setSteer]
    split
    · rfl
    · exact congrArg Prod.fst (State.offerNotice_readSource _ _ _ _)

/-! The words of a PUT -/

/-- The words that a table keeps of those put: STATS takes each as 0 (R23). -/
def storedWords (t : TableId) (ws : List Word) : List Word := if t = .stats then List.replicate ws.length 0 else ws

theorem storedWords_length (t : TableId) (ws : List Word) : (storedWords t ws).length = ws.length := by
  rw [storedWords]
  split <;> simp

theorem storedWords_getD (t : TableId) (ws : List Word) (k : Nat) :
    (storedWords t ws).getD k 0 = if t = .stats then 0 else ws.getD k 0 := by
  rw [storedWords]
  split
  · simp only [List.getD_eq_getElem?_getD, List.getElem?_replicate]
    split <;> rfl
  · rfl

/-- Outside IDENT and the status words of STEERING a PUT stores its words in the table it names. -/
theorem State.putWords_tables (s : State) (hident : t ≠ .ident) (hactive : t ≠ .composeAActive ∧ t ≠ .composeBActive)
    (hsetup : t = .steering → i ≤ 5) (ws : List Word) :
    (s.putWords t i ws).tables = s.tables.setBank t ((s.tables.bank t).writeFrom i (storedWords t ws)) := by
  cases t
  case ident => exact absurd rfl hident
  case composeAActive => exact absurd rfl hactive.1
  case composeBActive => exact absurd rfl hactive.2
  case control => exact congrArg (·.2.1) (s.putControl_readSource i ws)
  case steering =>
    rw [State.putWords, State.putSteering_setup (hsetup rfl), State.setSteer_tables]
    rfl
  all_goals rfl

theorem State.putWords_identSource (s : State) (hident : t ≠ .ident) (i : Nat) (ws : List Word) :
    (s.putWords t i ws).identSource = s.identSource := by
  cases t
  case ident => exact absurd rfl hident
  case control => exact congrArg (·.1) (s.putControl_readSource i ws)
  case steering => exact s.putSteering_identSource i ws
  all_goals rfl

theorem State.putWords_steer (s : State) (hsteering : t ≠ .steering) (i : Nat) (ws : List Word) :
    (s.putWords t i ws).steer = s.steer := by
  cases t
  case steering => exact absurd rfl hsteering
  case control => exact congrArg (·.2.2) (s.putControl_readSource i ws)
  all_goals rfl

/-- A PUT that neither clears the reset cause, sets up the Steering Counter nor evaluates the reverse source only
stores. -/
theorem State.putWords_frame (s : State) (hident : t ≠ .ident) (hsteering : t ≠ .steering)
    (hreverse : ¬ (t = .control ∧ i ≤ 9 ∧ 9 < i + ws.length)) :
    s.putWords t i ws = { s with tables := (s.putWords t i ws).tables } := by
  cases t
  case ident => exact absurd rfl hident
  case steering => exact absurd rfl hsteering
  case control =>
    have hplain : s.putWords .control i ws =
        { s with tables := { s.tables with control := s.tables.control.writeFrom i ws } } :=
      if_neg fun h => hreverse ⟨rfl, h⟩
    rw [hplain]
  all_goals rfl

/-- A PUT that passed and put a word to IDENT put the one word 0 to index 4. -/
theorem State.putRefusal_ident (h : s.putRefusal .ident i ws = none) (hne : ws ≠ []) : i = 4 ∧ ws = [0] := by
  obtain ⟨hw, -, -, -, hlegal⟩ := (State.putRefusal_none_iff hne).mp h
  have hindex : ∀ k < ws.length, i + k = 4 := fun k hk => of_decide_eq_true (hw k hk)
  match ws, hne with
  | [w], _ =>
    obtain rfl : i = 4 := hindex 0 (by simp)
    have hzero : w = 0 := of_decide_eq_true ((firstIllegal_none_iff _ _ _).mp hlegal 0 (by simp))
    exact ⟨rfl, congrArg (fun w => [w]) hzero⟩
  | w :: w' :: ws, _ =>
    have hfirst := hindex 0 (by simp)
    have hsecond := hindex 1 (by simp)
    omega

theorem State.putRefusal_inactive (h : s.putRefusal t i ws = none) (hne : ws ≠ []) :
    t ≠ .composeAActive ∧ t ≠ .composeBActive := by
  obtain ⟨hw, -⟩ := (State.putRefusal_none_iff hne).mp h
  have hfirst : wordWritable t i = true := hw 0 (List.length_pos_iff.mpr hne)
  refine ⟨?_, ?_⟩
  all_goals
    rintro rfl
    cases hfirst

theorem State.identWord_cleared (s : State) (hj : j ≠ 4) :
    State.identWord { s with unit := { s.unit with cause := .none } } j = s.identWord j := by
  match j, hj with
  | 4, hj => exact absurd rfl hj
  | 0, _ | 1, _ | 2, _ | 3, _ | 5, _ | 6, _ | 7, _ | 8, _ => rfl
  | _ + 9, _ => rfl

/-- A PUT of the one word that IDENT takes: the cause then reads 0, as written (R33). -/
theorem State.readWord_putIdent (s : State) (t' : TableId) (j : Nat) : (s.putWords .ident 4 [0]).readWord t' j =
    if t' = .ident ∧ 4 ≤ j ∧ j < 4 + 1 then [(0 : Word)].getD (j - 4) 0 else s.readWord t' j := by
  split
  next hin =>
    obtain ⟨rfl, hlow, hhigh⟩ := hin
    obtain rfl : j = 4 := by omega
    rfl
  next hout =>
    by_cases ht : t' = .ident
    · subst ht
      exact s.identWord_cleared fun hj => hout ⟨rfl, by omega⟩
    · exact State.readWord_congr (u := s.putWords .ident 4 [0]) (s := s) (fun h => absurd h ht) (fun _ => rfl) rfl j

/-- A PUT of word 8 of STEERING stores nothing. -/
theorem State.readWord_putFlag (s : State) (hi : 5 < i) (ws : List Word) (hread : t' ≠ .steering ∨ j ≤ 5) :
    (s.putWords .steering i ws).readWord t' j = s.readWord t' j := by
  rw [State.putWords, State.putSteering_flag hi]
  by_cases ht : t' = .steering
  · subst ht
    rw [State.readWord_bank _ (by decide) hread, State.readWord_bank _ (by decide) hread]
  · exact State.readWord_congr (u := { s with steer := { s.steer with limitFlag := false } }) (s := s)
      (fun _ => rfl) (fun h => absurd h ht) rfl j

theorem State.readWord_putWords (h : s.putRefusal t i ws = none) (hfits : s.tables.fits = true) (hne : ws ≠ [])
    (hread : t' ≠ .steering ∨ t ≠ .steering ∨ j ≤ 5) : (s.putWords t i ws).readWord t' j =
      if t' = t ∧ i ≤ j ∧ j < i + ws.length then (if t = .stats then 0 else ws.getD (j - i) 0)
      else s.readWord t' j := by
  by_cases hident : t = .ident
  · subst hident
    obtain ⟨rfl, rfl⟩ := State.putRefusal_ident h hne
    exact s.readWord_putIdent t' j
  by_cases hflag : t = .steering ∧ 5 < i
  · obtain ⟨rfl, hi⟩ := hflag
    have hread' : t' ≠ .steering ∨ j ≤ 5 := hread.imp_right fun h => h.resolve_left (not_not_intro rfl)
    rw [s.readWord_putFlag hi ws hread', if_neg]
    rintro ⟨rfl, hj, -⟩
    exact absurd (hread'.resolve_left (not_not_intro rfl)) (by omega)
  have hsetup : t = .steering → i ≤ 5 := fun ht => Nat.not_lt.mp fun hi => hflag ⟨ht, hi⟩
  have htables := s.putWords_tables hident (State.putRefusal_inactive h hne) hsetup ws
  by_cases ht : t' = t
  · subst ht
    have hread' : t' ≠ .steering ∨ j ≤ 5 := hread.elim .inl id
    rw [State.readWord_bank _ hident hread', State.readWord_bank _ hident hread', htables,
      TableStore.bank_setBank_same _ _ hident, Table.read_writeFrom (TableStore.bank_wf hfits t'), storedWords_length,
      storedWords_getD]
    simp
  · rw [if_neg fun hin => ht hin.1]
    refine State.readWord_congr (fun _ => s.putWords_identSource hident i ws) (fun hst => ?_) ?_ j
    · exact s.putWords_steer (fun hsteering => ht (hst.trans hsteering.symm)) i ws
    · rw [htables, TableStore.bank_setBank_other _ _ ht]

theorem State.readWord_setPointer (s : State) (t : TableId) (i : Nat) (t' : TableId) (j : Nat) :
    (s.setPointer t i).readWord t' j = s.readWord t' j :=
  State.readWord_congr (u := s.setPointer t i) (fun _ => rfl) (fun _ => rfl) rfl j

/-- What a PUT that passes leaves before its reply. -/
def State.putStored (s : State) (t : TableId) (i : Nat) (ws : List Word) : State :=
  (if ws = [] then s else s.putWords t i ws).setPointer t (i + ws.length)

theorem State.putStored_nil (s : State) (t : TableId) (i : Nat) : s.putStored t i [] = s.setPointer t i := rfl

theorem State.putStored_some (hne : ws ≠ []) :
    s.putStored t i ws = (s.putWords t i ws).setPointer t (i + ws.length) :=
  congrArg (State.setPointer · t (i + ws.length)) (if_neg hne)

theorem State.put_passed (h : (x.readyFor x.unit.pointer.table).putRefusal x.unit.pointer.table x.unit.pointer.index
      (ws.take (tableSize x.unit.pointer.table - x.unit.pointer.index)) = none) :
    let run := ws.take (tableSize x.unit.pointer.table - x.unit.pointer.index)
    let u := (x.readyFor x.unit.pointer.table).putStored x.unit.pointer.table x.unit.pointer.index run
    x.put ws = .of u (if run.length = ws.length then .done else .index)
      (if run.length = ws.length then [] else [BitVec.ofNat 16 run.length]) := by
  simp only [State.put, h]
  split <;> rfl

end PutStores

/-- Settles O18: a passing run is stored in the table it names; the other effects are those of CONTROL word 9, of IDENT
and of STEERING. -/
theorem putStoresRun : Obligations.PutStoresRun := by
  intro s r q h hfits t i ws run x hpass
  have hxfits : x.tables.fits = true := by rwa [State.readyFor_tables]
  refine ⟨x.putStored t i run, State.exec_takes_body h (State.put_passed hpass), rfl,
    fun hident hsteering hreverse => ?_, fun ht hlow hhigh => ?_, fun ht hne => ?_, fun t' j hread => ?_⟩
  · by_cases hne : run = []
    · rw [hne]
      rfl
    · rw [State.putStored_some hne, x.putWords_frame hident hsteering hreverse]
      rfl
  · have hne : run ≠ [] := ne_nil_of_lt (k := 0) (by omega)
    have hcontrol : (x.putStored t i run).tables.control = x.tables.control.writeFrom i run := by
      rw [State.putStored_some hne, ht]
      exact congrArg (·.2.1.control) (x.putControl_readSource i run)
    rw [hcontrol, State.putStored_some hne, ht]
    exact congrArg (State.setPointer · .control (i + run.length)) (if_pos ⟨hlow, hhigh⟩)
  · rw [State.putStored_some hne, ht]
    rfl
  · by_cases hne : run = []
    · rw [hne, State.putStored_nil, State.readWord_setPointer, if_neg]
      rintro ⟨-, hlow, hhigh⟩
      exact absurd hhigh (by simpa using hlow)
    · rw [State.putStored_some hne, State.readWord_setPointer]
      exact State.readWord_putWords hpass hxfits hne hread

end Sys2Proof.Machine
end
